-- ==== Sys2Proof/Word.lean ====
section
/-! DEFINITION. The words the ES316's frames, image and records are made of. -/

namespace Sys2Proof

/-- A byte of a frame payload, of the memory image or of a record (R123, R176, R177). -/
abbrev Byte := BitVec 8

/-- A position on the terrace line, 0 to 14 for houses and 15 for the service tool (R123). -/
abbrev Position := BitVec 4

/-- One bit as the line carries it: `true` is recessive (1), `false` is dominant (0) (R120). -/
abbrev LineBit := Bool

/-- The run clock's word: whole seconds in 32 bits (R166). -/
abbrev ClockWord := BitVec 32

/-- A mode entry's insertion sequence number, which goes from 65535 to 0 (R42). -/
abbrev SequenceWord := BitVec 16

end Sys2Proof
end

