-- ==== Sys2Proof/Syntax.lean ====
section
/-! DEFINITION. The commands of the ES316: one constructor per row of spec/opcode_table.json. -/

namespace Sys2Proof

/-- The eight analog channels, in the order of R12 and of the STATUS record. -/
inductive Channel where
  | tOda | tSup | tEta | tEha | rhEta | rhOda | pSupf | pExt
  deriving DecidableEq, Repr

/-- The two fans, and with them the two air paths and their filter records (F_SUP, F_EXT). -/
inductive Fan where
  | sup | ext
  deriving DecidableEq, Repr

/-- The five button and contact inputs (00_scope, Signals). -/
inductive InputPin where
  | boost | filter | away | combustion | cutout
  deriving DecidableEq, Repr

/-- The two lamps that flash (R175). -/
inductive FlashingLamp where
  | filter | fault
  deriving DecidableEq, Repr

/-- Which of two blocks that act at the completion of the start load is taken first (R59): the mode stack's take-up,
or the fan drive's first evaluation. -/
inductive StartOrder where
  | stackFirst | fanFirst
  deriving DecidableEq, Repr

/-- A contention as the line shows it (R120, R122): the start bit as read at its sample point, recessive where the edge was
a glitch; the levels the other stations drive in the bit times after it; and, for each of these bit times, whether a dominant
level of this station fails to pull the line (R125). -/
structure Contention where
  startBit : LineBit
  others   : List LineBit
  failing  : List Bool
  deriving DecidableEq, Repr

/-- The commands. A row that tells of a frame carries the frame's sender position and payload bytes; a row that tells of a
discarded frame carries what of its header was read (R138). -/
inductive Instr where
  /-- POWER_ON (R166). -/
  | powerOn
  /-- SETTLING_WAIT_EXPIRY (R166): `status` is the status byte read. -/
  | settlingWaitExpiry (status : Byte) (order : StartOrder)
  /-- MEMORY_BUSY_POLL (R166). -/
  | memoryBusyPoll (status : Byte) (order : StartOrder)
  /-- MEMORY_BUSY_TIMEOUT (R166). -/
  | memoryBusyTimeout (order : StartOrder)
  /-- START_LOAD_COMPLETION (R166). -/
  | startLoadCompletion (order : StartOrder)
  /-- CONVERSION_COMPLETE (R2): `raw` is the raw reading, 0 to 4095. -/
  | conversionComplete (ch : Channel) (raw : BitVec 12)
  /-- HOLD_TIMER_EXPIRY (R9). -/
  | holdTimerExpiry (ch : Channel)
  /-- TACH_EDGE (R13): a falling edge, with the microseconds the input had been high before it and stays low after it. -/
  | tachEdge (fan : Fan) (highBefore lowAfter : Nat)
  /-- SCAN_COMPLETION (R14). -/
  | scanCompletion
  /-- FAN_EVALUATION (R17). -/
  | fanEvaluation
  /-- SETTLE_TIMER_EXPIRY (R33). -/
  | settleTimerExpiry (fan : Fan)
  /-- STALL_TIMER_EXPIRY (R34). -/
  | stallTimerExpiry (fan : Fan)
  /-- RETRY_PAUSE_EXPIRY (R35). -/
  | retryPauseExpiry (fan : Fan)
  /-- INPUT_LEVEL_CHANGE (R46): the input's new level, high or low. -/
  | inputLevelChange (pin : InputPin) (high : Bool)
  /-- BOOST_DEBOUNCE_EXPIRY (R46). -/
  | boostDebounceExpiry
  /-- AWAY_DEBOUNCE_EXPIRY (R49). -/
  | awayDebounceExpiry
  /-- COMBUSTION_DEBOUNCE_EXPIRY (R50). -/
  | combustionDebounceExpiry
  /-- COUNTDOWN_TICK (R45). -/
  | countdownTick
  /-- REMAINING_TIME_EXPIRY (R45). -/
  | remainingTimeExpiry
  /-- CLIMATE_TIMER_EXPIRY (R57). -/
  | climateTimerExpiry
  /-- FROST_EVALUATION (R61). -/
  | frostEvaluation
  /-- FULL_POWER_TIMER_EXPIRY (R73). -/
  | fullPowerTimerExpiry
  /-- HOLDOFF_EXPIRY (R160). -/
  | holdoffExpiry
  /-- THAW_TIMER_EXPIRY (R78). -/
  | thawTimerExpiry
  /-- RECOVER_TIMER_EXPIRY (R80). -/
  | recoverTimerExpiry
  /-- TIMED_THAW_EXPIRY (R82). -/
  | timedThawExpiry
  /-- ICE_POSSIBLE_HOLD_EXPIRY (R65). -/
  | icePossibleHoldExpiry
  /-- HEAT_ON_TIME_EXPIRY (R70). -/
  | heatOnTimeExpiry
  /-- CUTOUT_DEBOUNCE_EXPIRY (R67). -/
  | cutoutDebounceExpiry
  /-- VOLUME_ROLLOVER (R92). -/
  | volumeRollover (path : Fan)
  /-- RUN_HOUR_ROLLOVER (R92). -/
  | runHourRollover (path : Fan)
  /-- DUE_HOURS_EXPIRY (R97). -/
  | dueHoursExpiry (path : Fan)
  /-- BLOCKED_TIMER_EXPIRY (R98). -/
  | blockedTimerExpiry (path : Fan)
  /-- CAPTURE_QUALIFICATION_EXPIRY (R101). -/
  | captureQualificationExpiry (path : Fan)
  /-- FILTER_DEBOUNCE_EXPIRY (R102). -/
  | filterDebounceExpiry
  /-- FILTER_HOLD_EXPIRY (R102). -/
  | filterHoldExpiry
  /-- SAVE_STATUS_POLL (R170). -/
  | saveStatusPoll (status : Byte)
  /-- SAVE_BYTE_TIMEOUT (R170). -/
  | saveByteTimeout
  /-- SAVE_BYTE_READBACK (R170): `value` is the byte read back. -/
  | saveByteReadback (value : Byte)
  /-- HUMIDITY_EVALUATION (R107). -/
  | humidityEvaluation
  /-- IDLE_SPACE_REACHED (R122). -/
  | idleSpaceReached
  /-- CONTENTION_BEGIN (R122). -/
  | contentionBegin (contention : Contention)
  /-- CONTENTION_LOST (R125): the bit of the arbitration field, 0 the urgent flag, at which dominant was read. -/
  | contentionLost (bit : Fin 9)
  /-- BIT_ERROR (R131). -/
  | bitError
  /-- FRAME_SUCCESS (R131). -/
  | frameSuccess
  /-- STUFFING_VIOLATION (R126): sender position and kind code, as far as they had been read whole. -/
  | stuffingViolation (sender : Option Position) (kind : Option (BitVec 3))
  /-- CRC_ERROR (R126). -/
  | crcError (sender : Position) (kind : BitVec 3)
  /-- FORM_ERROR (R126): a matching CRC and an unused kind code. -/
  | formError (sender : Position) (kind : BitVec 3)
  /-- FRAME_TIMEOUT (R126). -/
  | frameTimeout (sender : Position) (kind : BitVec 3)
  /-- STUCK (R128). -/
  | stuck
  /-- STATE_FRAME (R143). -/
  | stateFrame (sender : Position) (payload : List Byte)
  /-- INTENT_FRAME (R144). -/
  | intentFrame (sender : Position) (payload : List Byte)
  /-- END_FRAME (R144). -/
  | endFrame (sender : Position) (payload : List Byte)
  /-- REPLY_FRAME (R127). -/
  | replyFrame (sender : Position) (payload : List Byte)
  /-- QUERY_STATUS (R172). -/
  | queryStatus (sender : Position) (payload : List Byte)
  /-- QUERY_FILTERS (R172). -/
  | queryFilters (sender : Position) (payload : List Byte)
  /-- QUERY_PEERS (R172). -/
  | queryPeers (sender : Position) (payload : List Byte)
  /-- QUERY_MODES (R172). -/
  | queryModes (sender : Position) (payload : List Byte)
  /-- QUERY_FAULTS (R172). -/
  | queryFaults (sender : Position) (payload : List Byte)
  /-- QUERY_LINE (R172). -/
  | queryLine (sender : Position) (payload : List Byte)
  /-- CLEAR_LINE_CAPTURE (R138, R173). -/
  | clearLineCapture (sender : Position) (payload : List Byte)
  /-- CLEAR_FAULT_COUNTS (R173). -/
  | clearFaultCounts (sender : Position) (payload : List Byte)
  /-- CLEAR_FAN_RETRY (R36, R173). -/
  | clearFanRetry (sender : Position) (payload : List Byte)
  /-- QUIET_TIMER_EXPIRY (R135). -/
  | quietTimerExpiry
  /-- LISTEN_IN_EXPIRY (R134). -/
  | listenInExpiry
  /-- STATE_PERIOD_EXPIRY (R132). -/
  | statePeriodExpiry
  /-- AGEING_TICK (R145). -/
  | ageingTick
  /-- PEER_ENTRY_EXPIRY (R145). -/
  | peerEntryExpiry (position : Position)
  /-- PLUME_HOLD_EXPIRY (R147). -/
  | plumeHoldExpiry
  /-- LAMP_FLASH_STEP (R175). -/
  | lampFlashStep (lamp : FlashingLamp)
  /-- POWER_LOSS (R171). -/
  | powerLoss
  /-- DOMINANT_SAMPLE_IN_WAITING (R122). -/
  | dominantSampleInWaiting
  deriving DecidableEq, Repr

end Sys2Proof
end

