-- ==== Sys2Proof/Config.lean ====
section
/-! DEFINITION. The parameters of the configuration table (chapter 10), and the values the spec leaves open. -/

namespace Sys2Proof

/-- The six operands a humidity rule may compare (R111), in the order of their codes (R177). -/
inductive Operand where
  | rhEta | rise | tdEta | tdOut | tOut | zero
  deriving DecidableEq, Repr

/-- The five configured fields of a humidity rule record (R112); the mask is a set of outcomes. -/
structure Rule where
  left    : Operand
  right   : Operand
  offset  : Int
  less    : Bool
  equal   : Bool
  greater : Bool
  n       : Nat
  deriving DecidableEq, Repr

/-- A supply flow and an extract flow, in tenths of L/s. -/
structure FlowPair where
  supply  : Nat
  extract : Nat
  deriving DecidableEq, Repr

/-- One point of a fan's calibration table: a flow and the speed it needs (R27). -/
structure CalibrationPoint where
  q : Nat
  n : Nat
  deriving DecidableEq, Repr

/-- The five points of one fan (R27). -/
abbrev Calibration := Vector CalibrationPoint 5

/-- The level pairs of levels 0 to 4 (R54). -/
abbrev LevelSet := Vector FlowPair 5

/-- The parameters the part runs on: those of the configuration table of chapter 10.
Times given in minutes are kept in minutes. -/
structure Params where
  position   : Option Position
  adj        : BitVec 16
  ref        : BitVec 16
  plume      : BitVec 16
  peerExp    : Nat
  plumeRH    : Int
  qminRun    : Nat
  qmax       : Nat
  lim        : Nat
  slew       : Nat
  kR         : Nat
  qThawB     : Nat
  qBlockCap  : Nat
  calSupply  : Calibration
  calExtract : Calibration
  nMax       : Nat
  dutyMin    : Nat
  ki         : Nat
  nStall     : Nat
  stallK     : Nat
  baseLevel  : Fin 5
  combLevel  : Fin 5
  dryLevel   : Fin 5
  boostTime  : Nat
  runOn      : Nat
  mild       : LevelSet
  normal     : LevelSet
  cold       : LevelSet
  combustion : LevelSet
  onset      : Int
  decay      : Nat
  l1         : Nat
  l3         : Nat
  tWatchOut  : Int
  iThaw      : Nat
  iClear     : Nat
  tThawEnd   : Int
  tThawMin   : Nat
  tThawMax   : Nat
  qMeasMin   : Nat
  dueIdx     : Nat
  blockIdx   : Nat
  dueHours   : Nat
  dueVol     : Nat
  rules      : Vector Rule 4
  deriving DecidableEq, Repr

/-- Free value (R171, log 9): whether a byte write that is in progress when its save ends early has reached the
memory. The argument is the model's counter of free values. -/
opaque Config.byteLands : Nat → Bool

/-- Free value (R176, log 10): what a reply carries in a field that its layout gives a place but no value. The
arguments are the model's counter of free values and the field's number. -/
opaque Config.openField : Nat → Nat → Nat

end Sys2Proof
end

