-- ==== Sys2Proof/Machine/Blocks.lean ====
section
/-! DEFINITION. What each block of the ES316 holds (00_scope, block diagram). A timer is held as the ticks elapsed, absent
while it is stopped. -/

namespace Sys2Proof.Machine

/-- A thing held once for each fan, or for each air path. -/
structure PerFan (α : Type) where
  sup : α
  ext : α
  deriving DecidableEq, Repr

/-! ### Inputs -/

/-- A debounced input (R46, R47, R67, R102): the pin's level, the level the debounced state stands at, the candidate
timer, and whether a button was held down across the completion of the start load. -/
structure Debounce where
  high          : Bool
  debouncedHigh : Bool
  candidate     : Nat
  heldAtStart   : Bool
  deriving DecidableEq, Repr

/-! ### Measurement scanner -/

inductive ChannelState where
  | valid | held | fault
  deriving DecidableEq, Repr

inductive Reason where
  | opened | short | outOfRange
  deriving DecidableEq, Repr

/-- A channel record (R4). -/
structure ChannelRecord where
  state   : ChannelState
  value   : Option Int
  reason  : Option Reason
  hold    : Option Nat
  goodRun : Nat
  deriving DecidableEq, Repr

/-- The scanner (R1, R4, R13). `tachHigh` is each tachometer input's level with the short levels ignored. -/
structure Scanner where
  channels : Vector ChannelRecord 8
  pulses   : PerFan Nat
  tachHigh : PerFan Bool
  timer    : Nat
  deriving DecidableEq, Repr

/-! ### Fan drive -/

inductive FanState where
  | off | running | settled | fault
  deriving DecidableEq, Repr

/-- The fields of one fan (chapter 2, opening table). `settle` and `stall` are seconds counted by evaluations. -/
structure FanRecord where
  target      : Nat
  commanded   : Nat
  speedTarget : Nat
  measured    : Nat
  duty        : Nat
  state       : FanState
  settle      : Nat
  stall       : Nat
  retryPause  : Option Nat
  retryCount  : Nat
  shortfall   : Bool
  deriving DecidableEq, Repr

structure FanDrive where
  fans  : PerFan FanRecord
  timer : Option Nat
  deriving DecidableEq, Repr

/-! ### Mode stack -/

inductive Origin where
  | base | away | humDry | humBoost | button | combustion
  deriving DecidableEq, Repr

/-- A mode entry (R42); its priority follows from its origin. `remaining` is in seconds. -/
structure ModeEntry where
  origin    : Origin
  level     : Fin 5
  remaining : Option Nat
  seq       : SequenceWord
  deriving DecidableEq, Repr

inductive ClimateSet where
  | mild | normal | cold
  deriving DecidableEq, Repr

/-- The mode stack: the entries above BASE from the top, and BASE, which is never withdrawn (R43). -/
structure ModeStack where
  above        : List ModeEntry
  base         : ModeEntry
  counter      : SequenceWord
  climate      : ClimateSet
  climateTimer : Option Nat
  countdown    : Option Nat
  boost        : Debounce
  away         : Debounce
  combustion   : Debounce
  boostCopy    : Bool
  dryCopy      : Bool
  deriving DecidableEq, Repr

/-! ### Frost guard -/

inductive FrostState where
  | clear | watch | preheat | reduce | intent | thawU | thawB | recover | fallback
  deriving DecidableEq, Repr

inductive Denial where
  | peerThaw | peerPrecedence | combustion | line
  deriving DecidableEq, Repr

/-- The frost condition a station declares on the line (R85, R141). -/
inductive Announcement where
  | none | intent | thawU | thawB
  deriving DecidableEq, Repr

structure FrostGuard where
  state         : FrostState
  load          : Nat
  tdEta         : Option Int
  icePossible   : Bool
  iceHold       : Option Nat
  iceIndex      : Nat
  cutout        : Debounce
  available     : Bool
  power         : Nat
  fullPower     : Option Nat
  holdoff       : Option Nat
  thaw          : Option Nat
  recover       : Option Nat
  fallbackCycle : Option Nat
  timedThaw     : Option Nat
  urgency       : Option Nat
  denial        : Option Denial
  heatOn        : Bool
  heatLeft      : Option Nat
  timer         : Option Nat
  evaluated     : Bool
  deriving DecidableEq, Repr

/-! ### Filter monitor -/

inductive FilterState where
  | unreferenced | clean | loading | due | overdue | blocked
  deriving DecidableEq, Repr

/-- A filter record (R90) with its capture qualification (R100); `capture` is in seconds counted by evaluations. -/
structure FilterRecord where
  state        : FilterState
  dpRef        : Option Nat
  qRef         : Option Nat
  index        : Nat
  runHours     : Nat
  runSeconds   : Nat
  volume       : Nat
  remainder    : Nat
  hoursDue     : Nat
  blocked      : Option Nat
  capture      : Option Nat
  previousFlow : Option Nat
  deriving DecidableEq, Repr

structure FilterMonitor where
  records : PerFan FilterRecord
  lx      : Nat
  button  : Debounce
  hold    : Option Nat
  deriving DecidableEq, Repr

/-! ### Humidity evaluator -/

structure Humidity where
  ring       : Vector (Option Int) 16
  writeIndex : Fin 16
  rise       : Option Int
  tdEta      : Option Int
  tdOut      : Option Int
  counters   : Vector Nat 4
  boost      : Bool
  dry        : Bool
  timer      : Option Nat
  deriving DecidableEq, Repr

/-! ### Line controller -/

inductive FrameKind where
  | state | intent | endThaw | query | clear | reply
  deriving DecidableEq, Repr

/-- A frame as a transmit slot holds it: its kind and payload (R129). -/
structure Frame where
  kind    : FrameKind
  payload : List Byte
  deriving DecidableEq, Repr

inductive Slot where
  | urgent | reply | state
  deriving DecidableEq, Repr

/-- The shifter's copy: a slot's frame with the rank and sender of its arbitration field (R130). -/
structure ShiftedFrame where
  frame  : Frame
  rank   : BitVec 4
  sender : Position
  deriving DecidableEq, Repr

inductive LineState where
  | off | listen | active | quiet
  deriving DecidableEq, Repr

inductive LinePhase where
  | waiting | idle | inFrame | inEnd
  deriving DecidableEq, Repr

inductive LineFaultKind where
  | bitError | crcError | formError | frameTimeout | stuck
  deriving DecidableEq, Repr

/-- The line fault capture's record (R138). -/
structure LineCapture where
  fault  : LineFaultKind
  sender : Option Position
  kind   : Option FrameKind
  time   : ClockWord
  deriving DecidableEq, Repr

/-- A receiver's reading of a frame (R121, R126): the bits with the stuff bits removed, the run it counts for the stuff
bits, whether it is in the end field, whether it has found a stuffing violation, its count of recessive end bits, and its count of
consecutive dominant sample points (R128). -/
structure Reader where
  fields   : List Bool
  last     : Bool
  run      : Nat
  inEnd    : Bool
  violated : Bool
  endCount : Nat
  dominant : Nat
  deriving DecidableEq, Repr

/-- How a reception ends (R126, R128), with what was read of the header. -/
inductive Verdict where
  | violation (sender : Option Position) (kind : Option (BitVec 3))
  | crcError (sender : Position) (kind : BitVec 3)
  | formError (sender : Position) (kind : BitVec 3)
  | timeout (sender : Position) (kind : BitVec 3)
  | stuck
  | correct (kind : FrameKind) (sender : Position) (payload : List Byte)
  deriving DecidableEq, Repr

/-- What a sender finds when it compares the bits it reads with the bits it sent (R125, R131). -/
inductive SendVerdict where
  | success
  | lost (bit : Fin 9)
  | bitError
  deriving DecidableEq, Repr

/-- The line controller (chapter 7). `read` is the bits read since the start bit of the present reception, with it;
`others` is the levels that the other stations drive in the bit times after that start bit, recessive beyond its end, and
`failing` says in which of them this station's own dominant level does not pull the line. `dominantRun` is the count of
consecutive dominant sample points, up to 33, with which the present WAITING began or that have come in it (R128). -/
structure LineController where
  state         : LineState
  lastSender    : Position
  phase         : LinePhase
  idleRun       : Nat
  dominantRun   : Nat
  frameTime     : Option Nat
  read          : List LineBit
  others        : List LineBit
  failing       : List Bool
  stuckDeclared : Bool
  urgent        : Option Frame
  reply         : Option Frame
  stateSlot     : Option Frame
  shifter       : Option ShiftedFrame
  mark          : Option Slot
  failures      : Nat
  quiet         : Option Nat
  listenIn      : Option Nat
  statePeriod   : Option Nat
  capture       : Option LineCapture
  duplicate     : Bool
  deriving DecidableEq, Repr

/-! ### Peer table and outdoor resolver -/

/-- A peer entry (R141). -/
structure PeerEntry where
  position     : Position
  announcement : Announcement
  urgency      : Option Nat
  outdoorT     : Option Int
  outdoorRH    : Option Int
  plume        : Bool
  boosting     : Bool
  exhaustRH    : Option Int
  age          : Nat
  deriving DecidableEq, Repr

/-- The peer table: its entries in ascending order of position, and the ageing tick timer. -/
structure PeerTable where
  entries : List PeerEntry
  timer   : Option Nat
  deriving DecidableEq, Repr

inductive OutdoorTag where
  | own | terrace | constant | absent
  deriving DecidableEq, Repr

structure Outdoor where
  plume     : Bool
  plumeHold : Option Nat
  tRef      : Option Int
  rhRef     : Option Int
  tOut      : Option Int
  tTag      : Option OutdoorTag
  rhOut     : Option Int
  rhTag     : Option OutdoorTag
  deriving DecidableEq, Repr

/-! ### Memory port -/

inductive PortState where
  | loading | idle | saving
  deriving DecidableEq, Repr

/-- What the start load is doing (R166): the settling wait, polling a busy memory, or reading the image. -/
inductive LoadPhase where
  | settling | busy | reading
  deriving DecidableEq, Repr

inductive ConfigResult where
  | ok | noMemory | header | configSum | configRange
  deriving DecidableEq, Repr

inductive RecordResult where
  | ok | notRead | recordSum | recordRange
  deriving DecidableEq, Repr

/-- A save in flight (R170): the copy with its sum byte, the place of the byte being written, and whether that byte has
shown ready and is being read back. -/
structure Save where
  bytes   : List Byte
  place   : Nat
  reading : Bool
  deriving DecidableEq, Repr

/-- The memory port (chapter 10). `sent` is what it sent in its latest operation; `select` and `clock` are the levels of the
memory's select and clock between bytes, active and high where true (R166). -/
structure MemoryPort where
  state         : PortState
  load          : LoadPhase
  settling      : Option Nat
  busyPoll      : Option Nat
  busyTime      : Option Nat
  savePending   : Bool
  configResult  : ConfigResult
  recordResult  : RecordResult
  locationKnown : Bool
  save          : Option Save
  savePoll      : Option Nat
  saveBusy      : Option Nat
  sent          : List (List Byte)
  select        : Bool
  clock         : Bool
  deriving DecidableEq, Repr

/-! ### Service responder and fault set -/

/-- The 17 fault kinds, in the order of R174. -/
inductive FaultKind where
  | sens (ch : Channel)
  | fan (f : Fan)
  | preheatCutout | filterBlocked | configDefaults | recordsLost | memoryWrite | duplicatePosition | lineErrors
  deriving DecidableEq, Repr

/-- A fault record (R174). -/
structure FaultRecord where
  active : Bool
  count  : Nat
  first  : ClockWord
  last   : ClockWord
  deriving DecidableEq, Repr

inductive LampPattern where
  | dark | steady | flash | doubleFlash | tripleFlash
  deriving DecidableEq, Repr

/-- A lamp that can flash: its pattern, its place in the pattern's cycle and the time in that place (R175). -/
structure Lamp where
  pattern : LampPattern
  place   : Nat
  timer   : Nat
  deriving DecidableEq, Repr

structure Service where
  faults     : Vector FaultRecord 17
  boostLamp  : Bool
  filterLamp : Lamp
  faultLamp  : Lamp
  deriving DecidableEq, Repr

end Sys2Proof.Machine
end

