-- ==== Sys2Proof/Machine/Bits.lean ====
section
/-! DEFINITION. Bits and bytes: packing of fields (R176), the CRC, bit stuffing (R121) and the bits of a frame (R123). -/

namespace Sys2Proof.Machine

/-- The `w` low bits of `n`, most significant first (R176). -/
def natBits : Nat → Nat → List Bool
  | 0, _ => []
  | w + 1, n => n.testBit w :: natBits w n

/-- `i` in two's complement in `w` bits, most significant first (R176). -/
def intBits (w : Nat) (i : Int) : List Bool := natBits w (BitVec.ofInt w i).toNat

def flagBit (b : Bool) : List Bool := [b]

/-- Bits packed into bytes, the last byte filled with zero bits (R176). -/
def packBytes : List Bool → List Byte
  | [] => []
  | a :: b :: c :: d :: e :: f :: g :: h :: rest => bitsToByte [a, b, c, d, e, f, g, h] :: packBytes rest
  | short => [bitsToByte (short ++ List.replicate (8 - short.length) false)]
where
  bitsToByte (bits : List Bool) : Byte := bits.foldl (fun v b => (v <<< 1) ||| (if b then 1 else 0)) 0

/-- The bits of a byte, most significant first. -/
def byteBits (b : Byte) : List Bool := natBits 8 b.toNat

def payloadBits (payload : List Byte) : List Bool := payload.flatMap byteBits

/-- The unsigned 16-bit value of two bytes, high byte first (R177). -/
def wordOf (hi lo : Byte) : Nat := hi.toNat * 256 + lo.toNat

/-- The signed 16-bit value of two bytes, high byte first (R177). -/
def signedWordOf (hi lo : Byte) : Int := (BitVec.ofNat 16 (wordOf hi lo)).toInt

/-- Two bytes of a value, high byte first. -/
def wordBytes (n : Nat) : List Byte := [BitVec.ofNat 8 (n / 256), BitVec.ofNat 8 n]

def signedWordBytes (i : Int) : List Byte := wordBytes (BitVec.ofInt 16 i).toNat

/-- The 8-bit sum of bytes, carries discarded (R167). -/
def byteSum (bytes : List Byte) : Byte := bytes.foldl (· + ·) 0

/-- One bit into the CRC register of the generator x⁸ + x² + x + 1 (R176). -/
def crcStep (crc : Byte) (b : Bool) : Byte :=
  if crc.msb != b then (crc <<< 1) ^^^ 0x07 else crc <<< 1

/-- The CRC over unstuffed bits, from a register of all ones (R176). -/
def crc8 (bits : List Bool) : Byte := bits.foldl crcStep 0xFF

/-- Bit stuffing (R121) after a run of `run` bits of level `last`: a bit of the opposite level after every five equal bits,
which counts as the first bit of the next run; a run of five at the end is followed by one as well. -/
def stuffFrom (last : Bool) (run : Nat) : List Bool → List Bool
  | [] => if run = 5 then [!last] else []
  | b :: bs =>
    if run = 5 then (!last) :: b :: stuffFrom b (if b = !last then 2 else 1) bs
    else b :: stuffFrom b (if b = last then run + 1 else 1) bs

def stuff (bits : List Bool) : List Bool := stuffFrom true 0 bits

/-- Removing stuff bits (R121); `none` is a stuffing violation, a sixth equal bit, or a missing last stuff bit. -/
def destuffFrom (last : Bool) (run : Nat) : List Bool → Option (List Bool)
  | [] => if run = 5 then none else some []
  | b :: bs =>
    if run = 5 then if b = last then none else destuffFrom b 1 bs
    else (destuffFrom b (if b = last then run + 1 else 1) bs).map (b :: ·)

def destuff (bits : List Bool) : Option (List Bool) := destuffFrom true 0 bits

/-- The kind codes (R176). -/
def kindCode : FrameKind → Nat
  | .intent => 1
  | .endThaw => 2
  | .state => 3
  | .query => 4
  | .clear => 5
  | .reply => 6

/-- The kind a code stands for; codes 0 and 7 are unused (R126, R176). -/
def kindOfCode (code : BitVec 3) : Option FrameKind :=
  match code.toNat with
  | 1 => some .intent
  | 2 => some .endThaw
  | 3 => some .state
  | 4 => some .query
  | 5 => some .clear
  | 6 => some .reply
  | _ => none

/-- The urgent flag: 0 (dominant) for INTENT and END, 1 for every other kind (R123). -/
def urgentFlag : FrameKind → Bool
  | .intent => false
  | .endThaw => false
  | .state => true
  | .query => true
  | .clear => true
  | .reply => true

/-- A station's rotation rank: position − last sender − 1, modulo 16 (R124). -/
def rotationRank (position lastSender : Position) : BitVec 4 := position - lastSender - 1

/-- The 9-bit arbitration field: urgent flag, rank, sender position (R123). -/
def arbitrationBits (f : ShiftedFrame) : List Bool :=
  urgentFlag f.frame.kind :: natBits 4 f.rank.toNat ++ natBits 4 f.sender.toNat

/-- The fields the CRC is taken over, from the urgent flag to the end of the payload (R123). -/
def frameFields (f : ShiftedFrame) : List Bool :=
  arbitrationBits f ++ natBits 3 (kindCode f.frame.kind) ++ natBits 6 f.frame.payload.length
    ++ payloadBits f.frame.payload

/-- The stuffed part of a frame on the line: the dominant start bit, the fields and the CRC, with stuff bits (R121). -/
def stuffedFrame (f : ShiftedFrame) : List Bool :=
  stuff (false :: frameFields f ++ natBits 8 (crc8 (frameFields f)).toNat)

/-- The bits a sender puts on the line for a whole frame: the stuffed part and the seven recessive end bits (R123). -/
def frameOnLine (f : ShiftedFrame) : List Bool := stuffedFrame f ++ List.replicate 7 true

/-! ### Reading a frame -/

/-- The value of a field, most significant bit first (R176). -/
def fieldValue (bits : List Bool) : Nat := bits.foldl (fun v b => 2 * v + b.toNat) 0

/-- A receiver at the falling edge of the start bit. -/
def Reader.start : Reader where
  fields := []
  last := true
  run := 0
  inEnd := false
  violated := false
  endCount := 0
  dominant := 0

/-- The sender position, once the arbitration field has been read whole (R123, R138). -/
def Reader.sender (r : Reader) : Option Position :=
  if 10 ≤ r.fields.length then some (BitVec.ofNat 4 (fieldValue ((r.fields.drop 6).take 4))) else none

/-- The kind code, once the kind field has been read whole (R123, R138). -/
def Reader.kind (r : Reader) : Option (BitVec 3) :=
  if 13 ≤ r.fields.length then some (BitVec.ofNat 3 (fieldValue ((r.fields.drop 10).take 3))) else none

/-- The length field (R123). -/
def Reader.payloadLength (r : Reader) : Nat := fieldValue ((r.fields.drop 13).take 6)

/-- The last CRC bit has been taken: the length field says where the payload and the CRC end (R126). -/
def Reader.complete (r : Reader) : Bool :=
  decide (19 ≤ r.fields.length) && decide (27 + 8 * r.payloadLength ≤ r.fields.length)

/-- A bit of the stuffed part (R121, R126): a bit that follows five equal bits is a stuff bit, and of the same level a
stuffing violation. The end field begins after the last CRC bit and its stuff bit. -/
def Reader.stuffedBit (r : Reader) (b : Bool) : Reader :=
  if r.run = 5 then
    if b = r.last then { r with violated := true } else { r with last := b, run := 1, inEnd := r.complete }
  else
    let t := { r with fields := r.fields ++ [b], last := b, run := if b = r.last then r.run + 1 else 1 }
    { t with inEnd := t.complete && decide (t.run ≠ 5) }

/-- A bit in the end field: a dominant one sets the count of seven back to 0 (R126). -/
def Reader.endBit (r : Reader) (b : Bool) : Reader := { r with endCount := if b then r.endCount + 1 else 0 }

/-- The dominant sample points in a row at which a receiver declares the line stuck (R128). -/
def stuckLimit : Nat := 33

/-- The line is stuck (R128). -/
def Reader.stuck (r : Reader) : Bool := decide (stuckLimit ≤ r.dominant)

/-- The reception is over: a stuffing violation, the seventh recessive end bit (R126), or a stuck line (R128). -/
def Reader.finished (r : Reader) : Bool := r.violated || decide (7 ≤ r.endCount) || r.stuck

/-- A count of consecutive dominant sample points, at the next one (R128). -/
def dominantAfter (n : Nat) (b : LineBit) : Nat := if b then 0 else n + 1

/-- The dominant sample points in a row at the end of these bits (R128). -/
def dominantAtEnd (bits : List LineBit) : Nat := bits.foldl dominantAfter 0

/-- The next bit at its sample point (R126, R128). A dominant run that begins on one of the last four bits of the CRC and
goes on into the end field is no stuffing violation: the end field is not stuffed (DESIGN CHOICE, log 38). -/
def Reader.step (r : Reader) (b : Bool) : Reader :=
  if r.finished then r
  else { (if r.inEnd then r.endBit b else r.stuffedBit b) with dominant := dominantAfter r.dominant b }

/-- What a receiver has made of the bits read since the start bit. -/
def readerOf (bits : List Bool) : Reader := bits.foldl Reader.step Reader.start

/-- The fields that the CRC is taken over, from the urgent flag to the end of the payload (R123). -/
def Reader.checked (r : Reader) : List Bool := (r.fields.drop 1).take (r.fields.length - 9)

/-- The CRC over the fields received matches the CRC read (R126). -/
def Reader.crcMatches (r : Reader) : Bool :=
  (crc8 r.checked).toNat == fieldValue (r.fields.drop (r.fields.length - 8))

/-- The payload's bytes (R123). -/
def Reader.payload (r : Reader) : List Byte :=
  (List.range r.payloadLength).map fun i => BitVec.ofNat 8 (fieldValue ((r.fields.drop (19 + 8 * i)).take 8))

/-- How the frame is judged when its reception is over (R126, R128). -/
def Reader.verdict (r : Reader) : Verdict :=
  if r.violated then .violation r.sender r.kind
  else if r.stuck then .stuck
  else if !r.crcMatches then .crcError (r.sender.getD 0) (r.kind.getD 0)
  else
    match kindOfCode (r.kind.getD 0) with
    | none => .formError (r.sender.getD 0) (r.kind.getD 0)
    | some k => .correct k (r.sender.getD 0) r.payload

/-! ### The line -/

/-- `n` bits of the line from the point where this station drives `own` and the others drive `others`: dominant while any
station drives it, released beyond the end of both (R120). -/
def lineBits : Nat → List LineBit → List LineBit → List LineBit
  | 0, _, _ => []
  | n + 1, own, others => (own.headD true && others.headD true) :: lineBits n own.tail others.tail

/-- This station's bits as they reach the line: released in the bit times in which its driver fails to pull it (R125). -/
def pulled : List LineBit → List Bool → List LineBit
  | b :: own, f :: failing => (b || f) :: pulled own failing
  | own, _ => own

/-- The next `n` bits of the line in the present reception, where this station drives `own` from its start bit on (R120). -/
def bitsWith (own : List LineBit) (n : Nat) (m : LineController) : List LineBit :=
  lineBits n (pulled (own.drop m.read.length) (m.failing.drop (m.read.length - 1))) (m.others.drop (m.read.length - 1))

/-- The place of the first bit that was not read as it was sent (R131). -/
def firstMismatch : List LineBit → List LineBit → Option Nat
  | s :: sent, r :: read => if s = r then (firstMismatch sent read).map (· + 1) else some 0
  | _, _ => none

/-- A sender reads back every bit it sends and compares it with the bit sent (R120): the place in its frame of the first
mismatch, if there is one. -/
def mismatchPlace (m : LineController) (f : ShiftedFrame) : Option Nat :=
  firstMismatch (frameOnLine f) (m.read ++ bitsWith (frameOnLine f) ((frameOnLine f).length - m.read.length) m)

/-- The bits this station drives from the start bit of its frame on: none where it is not sending, and none after a bit that
it does not read as it sent it (R120, R125, R131). -/
def ownBits (m : LineController) : List LineBit :=
  match m.shifter with
  | none => []
  | some f =>
    match mismatchPlace m f with
    | none => frameOnLine f
    | some place => (frameOnLine f).take (place + 1)

/-- The next `n` bits of the line in the present reception (R120). -/
def nextBits (n : Nat) (m : LineController) : List LineBit := bitsWith (ownBits m) n m

/-- The level this station drives now: its frame's bit of this bit time while it is sending, otherwise released (R120). -/
def drivenLevel (m : LineController) : LineBit :=
  match m.frameTime with
  | none => true
  | some e => (ownBits m).getD (e / 5) true

/-- The place on the line of a bit of the arbitration field: after the start bit, the bits of the field before it and their
stuff bits (R121, R123). -/
def arbitrationPlace (f : ShiftedFrame) (bit : Fin 9) : Nat := (stuff (false :: (arbitrationBits f).take bit.val)).length

/-- The bits of the arbitration field, in their order. -/
def arbitrationOrder : List (Fin 9) := [0, 1, 2, 3, 4, 5, 6, 7, 8]

/-- What a mismatch at this place of the frame is (R125, R131): a contention lost where dominant was read at a bit of the
arbitration field that was sent recessive, and otherwise a BIT_ERROR. Only the nine bits of the field can lose: a dominant
read at a recessive stuff bit between them is a BIT_ERROR (DESIGN CHOICE, log 33). -/
def mismatchVerdict (f : ShiftedFrame) (place : Nat) : SendVerdict :=
  if (frameOnLine f).getD place false then
    match arbitrationOrder.find? fun bit => arbitrationPlace f bit == place with
    | some bit => .lost bit
    | none => .bitError
  else .bitError

end Sys2Proof.Machine
end

