-- ==== Sys2Proof/Machine/Defaults.lean ====
section
/-! DEFINITION. The built-in defaults of the configuration table, and the fixed times of the chapters. -/

namespace Sys2Proof.Machine

/-- Ticks in `n` seconds: a tick is 1/48000 s, of which both a millisecond and a bit time are whole numbers (log 1). -/
def seconds (n : Nat) : Nat := 48000 * n

/-- Ticks in `n` milliseconds. -/
def millis (n : Nat) : Nat := 48 * n

/-- Ticks in `n` bit times of the terrace line at 9600 bit/s (R120). -/
def bitTimes (n : Nat) : Nat := 5 * n

/-- Ticks in `n` minutes. -/
def minutes (n : Nat) : Nat := seconds (60 * n)

/-- Whole seconds in `t` ticks. -/
def wholeSeconds (t : Nat) : Nat := t / 48000

/-- The scan period and the tachometer window (R1, R13). -/
def scanPeriod : Nat := seconds 1
/-- The hold of a HELD channel (R7). -/
def channelHold : Nat := seconds 30
/-- The fan-loop period (R17). -/
def fanPeriod : Nat := seconds 1
/-- The settling time, in evaluations of one second (R33). -/
def settleSeconds : Nat := 20
/-- The retry pauses (R35). -/
def shortPause : Nat := seconds 60
def longPause : Nat := minutes 15
/-- Button and contact debouncing (R46, R47, R67, R102). -/
def buttonDebounce : Nat := millis 50
def contactDebounce : Nat := seconds 2
/-- The countdown tick (R45). -/
def countdownPeriod : Nat := seconds 1
/-- The climate timer (R56). -/
def climatePeriod : Nat := minutes 10
/-- The frost and humidity periods (R61, R107). -/
def frostPeriod : Nat := seconds 10
def humidityPeriod : Nat := seconds 10
/-- The fixed times of the frost guard (chapter 4, configuration). -/
def iceHoldTime : Nat := minutes 10
def fullPowerSeconds : Nat := 600
def recoverTime : Nat := minutes 5
def holdoffTime : Nat := seconds 30
def timedThawTime : Nat := minutes 10
def coldInterval : Nat := minutes 40
def frostInterval : Nat := minutes 90
/-- The fixed times of the filter monitor (chapter 5, configuration). -/
def blockedTime : Nat := minutes 10
def captureSeconds : Nat := 60
def filterHoldTime : Nat := seconds 5
def dueHoursLimit : Nat := 720
/-- The line controller's times (R122, R126, R132, R134, R135). -/
def idleSpace : Nat := bitTimes 10
def frameLimit : Nat := bitTimes 1000
def statePeriodTime : Nat := seconds 10
def listenInTime : Nat := seconds 20
def quietTime : Nat := seconds 30
/-- The ageing tick and the plume hold (R145, R147). -/
def ageingPeriod : Nat := seconds 10
def plumeHoldTime : Nat := seconds 120
/-- The memory port's times (R166, R170). -/
def settlingWait : Nat := millis 500
def busyPollTime : Nat := millis 10
def busyLimit : Nat := seconds 3
def savePollTime : Nat := millis 1
def saveBusyLimit : Nat := millis 10
/-- The CONSTANT fallback of T_out_eff (R151). -/
def constantOutdoor : Int := -200

/-- The default calibration tables (R27). -/
def defaultCalSupply : Calibration := #v[⟨100, 1000⟩, ⟨250, 1700⟩, ⟨400, 2300⟩, ⟨600, 3000⟩, ⟨900, 3800⟩]
def defaultCalExtract : Calibration := #v[⟨100, 1050⟩, ⟨250, 1750⟩, ⟨400, 2400⟩, ⟨600, 3100⟩, ⟨900, 3850⟩]

/-- The default level sets (R54). -/
def defaultMild : LevelSet := #v[⟨88, 88⟩, ⟨165, 176⟩, ⟨275, 297⟩, ⟨385, 415⟩, ⟨495, 525⟩]
def defaultNormal : LevelSet := #v[⟨80, 80⟩, ⟨150, 160⟩, ⟨250, 270⟩, ⟨350, 380⟩, ⟨450, 480⟩]
def defaultCold : LevelSet := #v[⟨80, 80⟩, ⟨120, 128⟩, ⟨200, 216⟩, ⟨280, 304⟩, ⟨360, 384⟩]
def defaultCombustion : LevelSet := #v[⟨100, 80⟩, ⟨170, 150⟩, ⟨260, 240⟩, ⟨360, 340⟩, ⟨460, 440⟩]

/-- The default humidity rules (R113): two boost rules, the dry rule, the inhibit rule. -/
def defaultRules : Vector Rule 4 :=
  #v[⟨.rhEta, .zero, 700, false, false, true, 3⟩,
     ⟨.rise, .zero, 50, false, true, true, 2⟩,
     ⟨.rhEta, .zero, 300, true, false, false, 30⟩,
     ⟨.tdOut, .tdEta, -20, false, true, true, 3⟩]

/-- The built-in defaults: the Default column of the configuration table (chapter 10), with no position and empty
acceptance sets (R140, R167). -/
def defaultParams : Params where
  position := none
  adj := 0
  ref := 0
  plume := 0
  peerExp := 3
  plumeRH := 700
  qminRun := 80
  qmax := 1200
  lim := 30
  slew := 20
  kR := 160
  qThawB := 120
  qBlockCap := 200
  calSupply := defaultCalSupply
  calExtract := defaultCalExtract
  nMax := 3900
  dutyMin := 150
  ki := 24
  nStall := 200
  stallK := 4
  baseLevel := 2
  combLevel := 2
  dryLevel := 1
  boostTime := 30
  runOn := 10
  mild := defaultMild
  normal := defaultNormal
  cold := defaultCold
  combustion := defaultCombustion
  onset := 5
  decay := 20
  l1 := 300
  l3 := 4000
  tWatchOut := 20
  iThaw := 48
  iClear := 8
  tThawEnd := 50
  tThawMin := 3
  tThawMax := 15
  qMeasMin := 150
  dueIdx := 64
  blockIdx := 192
  dueHours := 4380
  dueVol := 480000
  rules := defaultRules

end Sys2Proof.Machine
end

