-- ==== Sys2Proof/Machine/PowerOn.lean ====
section
/-! DEFINITION. The power-on values of every block, each as its chapter gives them. -/

namespace Sys2Proof.Machine

/-- An input at power-on: its debounced state is given, its pin is as it stands outside the part. -/
def Debounce.atPowerOn (high debouncedHigh : Bool) : Debounce where
  high := high
  debouncedHigh := debouncedHigh
  candidate := 0
  heldAtStart := false

/-- R5. -/
def ChannelRecord.atPowerOn : ChannelRecord where
  state := .fault
  value := none
  reason := none
  hold := none
  goodRun := 0

/-- R1, R5, R14; a tachometer input is taken to stand high (DESIGN CHOICE, log 25). -/
def Scanner.atPowerOn : Scanner where
  channels := Vector.replicate 8 ChannelRecord.atPowerOn
  pulses := ⟨0, 0⟩
  tachHigh := ⟨true, true⟩
  timer := 0

/-- R40. -/
def FanRecord.atPowerOn : FanRecord where
  target := 0
  commanded := 0
  speedTarget := 0
  measured := 0
  duty := 0
  state := .off
  settle := 0
  stall := 0
  retryPause := none
  retryCount := 0
  shortfall := false

/-- R40. -/
def FanDrive.atPowerOn : FanDrive where
  fans := ⟨FanRecord.atPowerOn, FanRecord.atPowerOn⟩
  timer := none

/-- R58. -/
def ModeStack.atPowerOn (boostHigh awayHigh combustionHigh : Bool) : ModeStack where
  above := []
  base := ⟨.base, 2, none, 0⟩
  counter := 1
  climate := .normal
  climateTimer := none
  countdown := none
  boost := Debounce.atPowerOn boostHigh true
  away := Debounce.atPowerOn awayHigh true
  combustion := Debounce.atPowerOn combustionHigh false
  boostCopy := false
  dryCopy := false

/-- R87. -/
def FrostGuard.atPowerOn (cutoutHigh : Bool) : FrostGuard where
  state := .clear
  load := 0
  tdEta := none
  icePossible := false
  iceHold := none
  iceIndex := 0
  cutout := Debounce.atPowerOn cutoutHigh false
  available := false
  power := 0
  fullPower := none
  holdoff := none
  thaw := none
  recover := none
  fallbackCycle := none
  timedThaw := none
  urgency := none
  denial := none
  heatOn := false
  heatLeft := none
  timer := none
  evaluated := false

/-- R91. -/
def FilterRecord.atPowerOn : FilterRecord where
  state := .unreferenced
  dpRef := none
  qRef := none
  index := 0
  runHours := 0
  runSeconds := 0
  volume := 0
  remainder := 0
  hoursDue := 0
  blocked := none
  capture := none
  previousFlow := none

/-- R91. -/
def FilterMonitor.atPowerOn (filterHigh : Bool) : FilterMonitor where
  records := ⟨FilterRecord.atPowerOn, FilterRecord.atPowerOn⟩
  lx := 0
  button := Debounce.atPowerOn filterHigh true
  hold := none

/-- R118. -/
def Humidity.atPowerOn : Humidity where
  ring := Vector.replicate 16 none
  writeIndex := 0
  rise := none
  tdEta := none
  tdOut := none
  counters := Vector.replicate 4 0
  boost := false
  dry := false
  timer := none

/-- R129, R133. -/
def LineController.atPowerOn : LineController where
  state := .off
  lastSender := 0
  phase := .waiting
  idleRun := 0
  dominantRun := 0
  frameTime := none
  read := []
  others := []
  failing := []
  stuckDeclared := false
  urgent := none
  reply := none
  stateSlot := none
  shifter := none
  mark := none
  failures := 0
  quiet := none
  listenIn := none
  statePeriod := none
  capture := none
  duplicate := false

/-- R153. -/
def PeerTable.atPowerOn : PeerTable where
  entries := []
  timer := none

/-- R153. -/
def Outdoor.atPowerOn : Outdoor where
  plume := false
  plumeHold := none
  tRef := none
  rhRef := none
  tOut := none
  tTag := none
  rhOut := none
  rhTag := none

/-- R166. -/
def MemoryPort.atPowerOn : MemoryPort where
  state := .loading
  load := .settling
  settling := some 0
  busyPoll := none
  busyTime := none
  savePending := false
  configResult := .noMemory
  recordResult := .notRead
  locationKnown := false
  save := none
  savePoll := none
  saveBusy := none
  sent := []
  select := false
  clock := false

/-- R174. -/
def FaultRecord.atPowerOn : FaultRecord where
  active := false
  count := 0
  first := 0
  last := 0

def Lamp.atPowerOn : Lamp where
  pattern := .dark
  place := 0
  timer := 0

/-- R174, R175. -/
def Service.atPowerOn : Service where
  faults := Vector.replicate 17 FaultRecord.atPowerOn
  boostLamp := false
  filterLamp := Lamp.atPowerOn
  faultLamp := Lamp.atPowerOn

end Sys2Proof.Machine
end

