-- ==== Sys2Proof/Machine/State.lean ====
section
/-! DEFINITION. The state of the ES316: its blocks, its supply and clock, the serial memory beside it, the queue of waiting
commands; and the state right after reset. -/

namespace Sys2Proof.Machine

/-- The whole machine. `uptime` is the ticks since the part left reset; `memory` is the serial memory's contents;
`freeIndex` is the model's own counter of free values (log 28); `pending` is the queue of waiting commands. -/
structure State where
  powered   : Bool
  uptime    : Nat
  params    : Params
  msc       : Scanner
  fdr       : FanDrive
  mst       : ModeStack
  frg       : FrostGuard
  flm       : FilterMonitor
  hev       : Humidity
  lnc       : LineController
  ptb       : PeerTable
  odr       : Outdoor
  mpt       : MemoryPort
  srf       : Service
  memory    : List Host.Cell
  freeIndex : Nat
  pending   : List Instr
  deriving DecidableEq, Repr

/-- The machine has no fault that stops it: no command of the ES316 has an effect that the spec leaves undefined as a
command, and nobody raises one. -/
inductive Fault where
  deriving DecidableEq, Repr

/-- Why a command has no meaning in this model. -/
inductive Refusal where
  /-- A command whose meaning is not written yet; raised by an arm of `exec` only. Safe: the model stops. -/
  | notModelled (mnemonic : String)
  deriving DecidableEq, Repr

/-- The machine right after reset (R166): every block at its power-on values, every input high as an unconnected input
reads (log 22), a serial memory in which nothing has been written (log 8), an empty queue. -/
def State.reset : State where
  powered := true
  uptime := 0
  params := defaultParams
  msc := Scanner.atPowerOn
  fdr := FanDrive.atPowerOn
  mst := ModeStack.atPowerOn true true true
  frg := FrostGuard.atPowerOn true
  flm := FilterMonitor.atPowerOn true
  hev := Humidity.atPowerOn
  lnc := LineController.atPowerOn
  ptb := PeerTable.atPowerOn
  odr := Outdoor.atPowerOn
  mpt := MemoryPort.atPowerOn
  srf := Service.atPowerOn
  memory := []
  freeIndex := 0
  pending := []

end Sys2Proof.Machine
end

