-- ==== Sys2Proof/Machine/Operands.lean ====
section
/-! DEFINITION. Reading what comes in: raw samples (R2, R3), frame payloads (R142, chapter 11.5), the memory image
(R167, R168, R177). -/

namespace Sys2Proof.Machine

/-- `v` limited to the range `lo` to `hi` (00_scope, Arithmetic). -/
def limitInt (lo hi v : Int) : Int := if v < lo then lo else if hi < v then hi else v

/-- `v` limited to the range `lo` to `hi` (00_scope, Arithmetic). -/
def limitNat (lo hi v : Nat) : Nat := if v < lo then lo else if hi < v then hi else v

/-- `v` lies in the range `lo` to `hi`. -/
def inRange (lo hi v : Int) : Bool := decide (lo ≤ v) && decide (v ≤ hi)

namespace PerFan
variable {α : Type}

def get (p : PerFan α) : Fan → α
  | .sup => p.sup
  | .ext => p.ext

def set (p : PerFan α) (f : Fan) (a : α) : PerFan α :=
  match f with
  | .sup => { p with sup := a }
  | .ext => { p with ext := a }

end PerFan

/-! ### Samples -/

/-- A channel's place in the scanner's records (R12). -/
def channelIndex : Channel → Fin 8
  | .tOda => 0
  | .tSup => 1
  | .tEta => 2
  | .tEha => 3
  | .rhEta => 4
  | .rhOda => 5
  | .pSupf => 6
  | .pExt => 7

/-- The input classes of R3. -/
inductive InputClass where
  | temperature | humidity | pressure
  deriving DecidableEq, Repr

def channelClass : Channel → InputClass
  | .tOda => .temperature
  | .tSup => .temperature
  | .tEta => .temperature
  | .tEha => .temperature
  | .rhEta => .humidity
  | .rhOda => .humidity
  | .pSupf => .pressure
  | .pExt => .pressure

/-- A classified sample (R2). -/
inductive Sample where
  | good (value : Int)
  | bad (reason : Reason)
  deriving DecidableEq, Repr

/-- The ratiometric conversion of R3, truncated toward zero. -/
def ratiometric (raw : Nat) : Int := (((raw : Int) - 410) * 1000).tdiv 3276

/-- The converted value of a raw reading (R3). -/
def convert (c : InputClass) (raw : Nat) : Int :=
  match c with
  | .temperature => ((raw * 1400 / 4095 : Nat) : Int) - 500
  | .humidity => ratiometric raw
  | .pressure => if inRange (-12) (-1) (ratiometric raw) then 0 else ratiometric raw

/-- The accepted range of a class (R2). -/
def accepted (c : InputClass) (v : Int) : Bool :=
  match c with
  | .temperature => inRange (-400) 800 v
  | .humidity => inRange 0 1000 v
  | .pressure => inRange 0 1000 v

/-- The reading at the top of the span, by class (R2). -/
def topReason : InputClass → Reason
  | .temperature => .opened
  | .humidity => .short
  | .pressure => .short

/-- The reading at the bottom of the span, by class (R2). -/
def bottomReason : InputClass → Reason
  | .temperature => .short
  | .humidity => .opened
  | .pressure => .opened

/-- Classification of a raw reading (R2). -/
def classify (c : InputClass) (raw : Nat) : Sample :=
  if 4080 ≤ raw then .bad (topReason c)
  else if raw ≤ 15 then .bad (bottomReason c)
  else if accepted c (convert c raw) then .good (convert c raw)
  else .bad .outOfRange

/-- A raw reading of a channel, classified. -/
def sampleOf (ch : Channel) (raw : BitVec 12) : Sample := classify (channelClass ch) raw.toNat

/-- The dewpoint approximation of R62 and R110: T − (1000 − RHc) / 5 with RH limited to 200 to 1000. -/
def dewpoint (t rh : Int) : Int := t - (1000 - limitInt 200 1000 rh).tdiv 5

/-! ### Frame payloads -/

/-- What a usable STATE frame says (chapter 11.5). -/
structure StateContent where
  announcement : Announcement
  urgency      : Option Nat
  outdoorT     : Option Int
  outdoorRH    : Option Int
  plume        : Bool
  boosting     : Bool
  exhaustRH    : Option Int
  deriving DecidableEq, Repr

/-- The announcement codes (R176). -/
def announcementCode : Announcement → Nat
  | .none => 0
  | .intent => 1
  | .thawU => 2
  | .thawB => 3

def announcementOfCode (code : Nat) : Announcement :=
  match code with
  | 0 => .none
  | 1 => .intent
  | 2 => .thawU
  | _ => .thawB

/-- An optional field lies in its range if it is present. -/
def optionInRange (lo hi : Int) : Option Int → Bool
  | none => true
  | some v => inRange lo hi v

/-- A field with a presence bit: absent, and not checked, where the bit is 0 (R142). -/
def presentIf {α : Type} (bit : Bool) (v : α) : Option α := if bit then some v else none

/-- The fields of an 8-byte STATE payload. -/
def stateFields (b0 b1 b2 b3 b4 b5 b6 b7 : Byte) : StateContent where
  announcement := announcementOfCode (b0.toNat / 64)
  urgency := presentIf (b0.getLsbD 5) b1.toNat
  outdoorT := presentIf (b0.getLsbD 4) (signedWordOf b2 b3)
  outdoorRH := presentIf (b0.getLsbD 3) (wordOf b4 b5 : Int)
  plume := b0.getLsbD 2
  boosting := b0.getLsbD 1
  exhaustRH := presentIf (b0.getLsbD 0) (wordOf b6 b7 : Int)

/-- The tests of R142 on a STATE frame's fields. -/
def usableState (c : StateContent) : Bool :=
  (c.urgency.isSome == (c.announcement != .none))
    && optionInRange (-400) 800 c.outdoorT
    && optionInRange 0 1000 c.outdoorRH
    && optionInRange 0 1000 c.exhaustRH
    && (c.boosting || c.exhaustRH.isNone)

/-- A usable STATE payload's content; `none` where the frame is unusable (R142). -/
def readState : List Byte → Option StateContent
  | [b0, b1, b2, b3, b4, b5, b6, b7] =>
    if usableState (stateFields b0 b1 b2 b3 b4 b5 b6 b7) then some (stateFields b0 b1 b2 b3 b4 b5 b6 b7) else none
  | _ => none

/-- A usable INTENT payload's urgency (chapter 11.5). -/
def readIntent : List Byte → Option Nat
  | [u] => some u.toNat
  | _ => none

/-- An END payload is usable when it is empty (chapter 11.5). -/
def readEnd : List Byte → Bool
  | [] => true
  | _ => false

/-- The bytes of a STATE payload; an absent field is sent as 0 (chapter 11.5). -/
def stateBytes (c : StateContent) : List Byte :=
  [packBytes.bitsToByte (natBits 2 (announcementCode c.announcement)
      ++ [c.urgency.isSome, c.outdoorT.isSome, c.outdoorRH.isSome, c.plume, c.boosting, c.exhaustRH.isSome]),
    BitVec.ofNat 8 (c.urgency.getD 0)]
    ++ signedWordBytes (c.outdoorT.getD 0) ++ signedWordBytes (c.outdoorRH.getD 0)
    ++ signedWordBytes (c.exhaustRH.getD 0)

/-! ### The memory image -/

/-- Byte `i` of an image; the image has all its 253 bytes (R177). -/
def imageByte (img : List Byte) (i : Nat) : Byte := img.getD i 0

def imageWord (img : List Byte) (i : Nat) : Nat := wordOf (imageByte img i) (imageByte img (i + 1))

def imageSigned (img : List Byte) (i : Nat) : Int := signedWordOf (imageByte img i) (imageByte img (i + 1))

/-- The four-byte value of due_vol (R177). -/
def imageLong (img : List Byte) (i : Nat) : Nat := imageWord img i * 65536 + imageWord img (i + 2)

/-- The header step of R167: format code 0xE316 and image length 253 (R177). -/
def headerGood (img : List Byte) : Bool := imageWord img 0 == 0xE316 && imageWord img 2 == 253

/-- The sum step of R167: configuration block and sum byte sum to 0. -/
def configSumGood (img : List Byte) : Bool := byteSum ((img.drop 4).take 222) == 0

/-- The sum test of R168 on the record block and its sum byte. -/
def recordSumGood (img : List Byte) : Bool := byteSum ((img.drop 226).take 27) == 0

/-- A level index; the range step has been made. -/
def levelOf (v : Int) : Fin 5 := Fin.ofNat 5 v.toNat

def operandOf (code : Byte) : Operand :=
  match code.toNat with
  | 0 => .rhEta
  | 1 => .rise
  | 2 => .tdEta
  | 3 => .tdOut
  | 4 => .tOut
  | _ => .zero

/-- A calibration table of five (Q, n) pairs from byte `i`. -/
def imageCalibration (img : List Byte) (i : Nat) : Calibration :=
  Vector.ofFn fun k => ⟨(imageSigned img (i + 4 * k.val)).toNat, (imageSigned img (i + 4 * k.val + 2)).toNat⟩

/-- A level set of five (supply, extract) pairs from byte `i`. -/
def imageLevelSet (img : List Byte) (i : Nat) : LevelSet :=
  Vector.ofFn fun k => ⟨(imageSigned img (i + 4 * k.val)).toNat, (imageSigned img (i + 4 * k.val + 2)).toNat⟩

/-- A humidity rule of six bytes from byte `i` (R177). -/
def imageRule (img : List Byte) (i : Nat) : Rule where
  left := operandOf (imageByte img i)
  right := operandOf (imageByte img (i + 1))
  offset := imageSigned img (i + 2)
  less := (imageByte img (i + 4)).getLsbD 2
  equal := (imageByte img (i + 4)).getLsbD 1
  greater := (imageByte img (i + 4)).getLsbD 0
  n := (imageByte img (i + 5)).toNat

/-- The parameters of an image's configuration block, in the order of the configuration table (R177). -/
def imageParams (img : List Byte) : Params where
  position := some (BitVec.ofNat 4 (imageByte img 4).toNat)
  adj := BitVec.ofNat 16 (imageWord img 5)
  ref := BitVec.ofNat 16 (imageWord img 7)
  plume := BitVec.ofNat 16 (imageWord img 9)
  peerExp := (imageSigned img 11).toNat
  plumeRH := imageSigned img 13
  qminRun := (imageSigned img 15).toNat
  qmax := (imageSigned img 17).toNat
  lim := (imageSigned img 19).toNat
  slew := (imageSigned img 21).toNat
  kR := (imageSigned img 23).toNat
  qThawB := (imageSigned img 25).toNat
  qBlockCap := (imageSigned img 27).toNat
  calSupply := imageCalibration img 29
  calExtract := imageCalibration img 49
  nMax := (imageSigned img 69).toNat
  dutyMin := (imageSigned img 71).toNat
  ki := (imageSigned img 73).toNat
  nStall := (imageSigned img 75).toNat
  stallK := (imageSigned img 77).toNat
  baseLevel := levelOf (imageSigned img 79)
  combLevel := levelOf (imageSigned img 81)
  dryLevel := levelOf (imageSigned img 83)
  boostTime := (imageSigned img 85).toNat
  runOn := (imageSigned img 87).toNat
  mild := imageLevelSet img 89
  normal := imageLevelSet img 109
  cold := imageLevelSet img 129
  combustion := imageLevelSet img 149
  onset := imageSigned img 169
  decay := (imageSigned img 171).toNat
  l1 := (imageSigned img 173).toNat
  l3 := imageWord img 175
  tWatchOut := imageSigned img 177
  iThaw := (imageSigned img 179).toNat
  iClear := (imageSigned img 181).toNat
  tThawEnd := imageSigned img 183
  tThawMin := (imageSigned img 185).toNat
  tThawMax := (imageSigned img 187).toNat
  qMeasMin := (imageSigned img 189).toNat
  dueIdx := (imageSigned img 191).toNat
  blockIdx := (imageSigned img 193).toNat
  dueHours := (imageSigned img 195).toNat
  dueVol := imageLong img 197
  rules := Vector.ofFn fun k => imageRule img (201 + 6 * k.val)

/-- A set names neither position 15 nor the own position (R140, R177). -/
def setGood (own : Nat) (set : Nat) : Bool := !set.testBit 15 && !set.testBit own

/-- Five pairs of an image that are all in range. -/
def pairsInRange (img : List Byte) (i : Nat) (lo1 hi1 lo2 hi2 : Int) : Bool :=
  (List.range 5).all fun k =>
    inRange lo1 hi1 (imageSigned img (i + 4 * k)) && inRange lo2 hi2 (imageSigned img (i + 4 * k + 2))

/-- A calibration table's order: Q strictly increasing, n non-decreasing (R27). -/
def calibrationOrdered (img : List Byte) (i : Nat) : Bool :=
  (List.range 4).all fun k =>
    decide (imageSigned img (i + 4 * k) < imageSigned img (i + 4 * k + 4))
      && decide (imageSigned img (i + 4 * k + 2) ≤ imageSigned img (i + 4 * k + 6))

def calibrationGood (img : List Byte) (i : Nat) : Bool :=
  pairsInRange img i 1 1500 0 4000 && calibrationOrdered img i

/-- Every pair of the COMBUSTION set supplies at least its extract (R54). -/
def supplyAtLeastExtract (img : List Byte) (i : Nat) : Bool :=
  (List.range 5).all fun k => decide (imageSigned img (i + 4 * k + 2) ≤ imageSigned img (i + 4 * k))

/-- A humidity rule within its ranges: operands among the six, offset, mask bits 7 to 3 clear, N (R112, R177). -/
def ruleGood (img : List Byte) (i : Nat) : Bool :=
  decide ((imageByte img i).toNat ≤ 5) && decide ((imageByte img (i + 1)).toNat ≤ 5)
    && inRange (-1000) 1000 (imageSigned img (i + 2))
    && decide ((imageByte img (i + 4)).toNat ≤ 7)
    && inRange 1 63 (imageByte img (i + 5)).toNat

/-- The ranges of the line, peer table and outdoor resolver parameters. -/
def lineRangesGood (img : List Byte) : Bool :=
  decide ((imageByte img 4).toNat ≤ 14)
    && setGood (imageByte img 4).toNat (imageWord img 5)
    && setGood (imageByte img 4).toNat (imageWord img 7)
    && setGood (imageByte img 4).toNat (imageWord img 9)
    && inRange 2 6 (imageSigned img 11) && inRange 300 1000 (imageSigned img 13)

/-- The ranges of the fan drive's parameters. -/
def fanRangesGood (img : List Byte) : Bool :=
  inRange 40 300 (imageSigned img 15) && inRange (imageSigned img 15) 1500 (imageSigned img 17)
    && inRange 0 ((imageSigned img 15).tdiv 2) (imageSigned img 19) && inRange 1 200 (imageSigned img 21)
    && inRange 64 255 (imageSigned img 23) && inRange 40 300 (imageSigned img 25)
    && inRange 40 600 (imageSigned img 27)
    && calibrationGood img 29 && calibrationGood img 49
    && inRange 1000 4000 (imageSigned img 69) && inRange 50 500 (imageSigned img 71)
    && inRange 1 255 (imageSigned img 73) && inRange 60 1000 (imageSigned img 75)
    && inRange 3 6 (imageSigned img 77)

/-- The ranges of the mode stack's parameters. -/
def modeRangesGood (img : List Byte) : Bool :=
  inRange 0 4 (imageSigned img 79) && inRange 0 4 (imageSigned img 81) && inRange 0 4 (imageSigned img 83)
    && inRange 5 240 (imageSigned img 85) && inRange 1 60 (imageSigned img 87)
    && [89, 109, 129, 149].all (fun i => pairsInRange img i 0 (imageSigned img 17) 0 (imageSigned img 17))
    && supplyAtLeastExtract img 149

/-- The ranges of the frost guard's parameters. -/
def frostRangesGood (img : List Byte) : Bool :=
  inRange (-50) 50 (imageSigned img 169) && inRange 1 500 (imageSigned img 171)
    && inRange 50 8000 (imageSigned img 173) && inRange (imageSigned img 173 + 1) 65535 (imageWord img 175)
    && inRange (-200) 200 (imageSigned img 177) && inRange 4 255 (imageSigned img 179)
    && inRange 0 (imageSigned img 179 - 1) (imageSigned img 181) && inRange 0 300 (imageSigned img 183)
    && inRange 1 10 (imageSigned img 185) && inRange (imageSigned img 185 + 1) 60 (imageSigned img 187)

/-- The ranges of the filter monitor's and the humidity evaluator's parameters. -/
def filterRangesGood (img : List Byte) : Bool :=
  inRange 50 600 (imageSigned img 189) && decide (imageSigned img 189 ≤ imageSigned img 17)
    && inRange 16 254 (imageSigned img 191) && inRange (imageSigned img 191 + 1) 255 (imageSigned img 193)
    && inRange 100 20000 (imageSigned img 195) && inRange 1000 8000000 (imageLong img 197)
    && [201, 207, 213, 219].all (ruleGood img)

/-- The range step of R167: every parameter in its range and every constraint of the configuration table met. -/
def rangesGood (img : List Byte) : Bool :=
  lineRangesGood img && fanRangesGood img && modeRangesGood img && frostRangesGood img && filterRangesGood img

/-- The configuration check of R167 on an image; `none` is no response. -/
def checkConfig (img : Option (List Byte)) : ConfigResult :=
  match img with
  | none => .noMemory
  | some img =>
    if !headerGood img then .header
    else if !configSumGood img then .configSum
    else if !rangesGood img then .configRange
    else .ok

/-- The filter state codes (R176). -/
def filterStateCode : FilterState → Nat
  | .unreferenced => 0
  | .clean => 1
  | .loading => 2
  | .due => 3
  | .overdue => 4
  | .blocked => 5

def filterStateOfCode (code : Nat) : Option FilterState :=
  match code with
  | 0 => some .unreferenced
  | 1 => some .clean
  | 2 => some .loading
  | 3 => some .due
  | 4 => some .overdue
  | 5 => some .blocked
  | _ => none

/-- A reference value of 0 is absent (R177). -/
def zeroAbsent (n : Nat) : Option Nat := if n = 0 then none else some n

/-- A record of the image at byte `i` with a known state code, and with the fields that are not stored at their start
values (R91, R177). -/
def imageRecord (img : List Byte) (i : Nat) (state : FilterState) : FilterRecord where
  state := state
  dpRef := zeroAbsent (imageWord img (i + 1))
  qRef := zeroAbsent (imageWord img (i + 3))
  index := (imageByte img (i + 5)).toNat
  runHours := imageWord img (i + 6)
  runSeconds := 0
  volume := (imageByte img (i + 8)).toNat * 65536 + imageWord img (i + 9)
  remainder := 0
  hoursDue := imageWord img (i + 11)
  blocked := none
  capture := none
  previousFlow := none

/-- A record is referenced while dp_ref and Q_ref are present (R90). -/
def FilterRecord.referenced (r : FilterRecord) : Bool := r.dpRef.isSome && r.qRef.isSome

def optionNatInRange (lo hi : Nat) : Option Nat → Bool
  | none => true
  | some v => decide (lo ≤ v ∧ v ≤ hi)

/-- The field tests of R168 on a record, against the configuration in use. -/
def recordFieldsGood (p : Params) (r : FilterRecord) : Bool :=
  optionNatInRange 5 1000 r.dpRef
    && optionNatInRange p.qMeasMin p.qmax r.qRef
    && (r.dpRef.isSome == r.qRef.isSome)
    && (r.state != .unreferenced || !r.referenced)
    && (!(r.state == .clean || r.state == .loading || r.state == .blocked) || r.referenced)
    && (r.referenced || r.index == 0)
    && (r.state != .unreferenced || r.hoursDue == 0)
    && decide (r.hoursDue ≤ 720)

/-- A record of the image that passes R168; `none` where a test fails. -/
def goodRecord (p : Params) (img : List Byte) (i : Nat) : Option FilterRecord :=
  match filterStateOfCode (imageByte img i).toNat with
  | none => none
  | some st => if recordFieldsGood p (imageRecord img i st) then some (imageRecord img i st) else none

/-- The record check of R168: the result, and the two records to be placed. -/
def checkRecords (p : Params) (located : Bool) (img : List Byte) : RecordResult × PerFan FilterRecord :=
  if !located then (.notRead, ⟨FilterRecord.atPowerOn, FilterRecord.atPowerOn⟩)
  else if !recordSumGood img then (.recordSum, ⟨FilterRecord.atPowerOn, FilterRecord.atPowerOn⟩)
  else
    match goodRecord p img 226, goodRecord p img 239 with
    | some a, some b => (.ok, ⟨a, b⟩)
    | _, _ => (.recordRange, ⟨FilterRecord.atPowerOn, FilterRecord.atPowerOn⟩)

/-- The 13 bytes of a record as saved (R177). -/
def recordBytes (r : FilterRecord) : List Byte :=
  [BitVec.ofNat 8 (filterStateCode r.state)] ++ wordBytes (r.dpRef.getD 0) ++ wordBytes (r.qRef.getD 0)
    ++ [BitVec.ofNat 8 r.index] ++ wordBytes r.runHours
    ++ [BitVec.ofNat 8 (r.volume / 65536)] ++ wordBytes (r.volume % 65536) ++ wordBytes r.hoursDue

/-- The record block with the sum byte that makes it sum to 0 (R170). -/
def recordBlock (r : PerFan FilterRecord) : List Byte :=
  (recordBytes r.sup ++ recordBytes r.ext) ++ [0 - byteSum (recordBytes r.sup ++ recordBytes r.ext)]

end Sys2Proof.Machine
end

