-- ==== Sys2Proof/Machine/Flags.lean ====
section
/-! DEFINITION. The flags other blocks read (combustion, boosting, confirmed running, …), the fault records (R174) and the
lamps (R175). -/

namespace Sys2Proof.Machine

/-! ### Reading the state -/

/-- The run clock: whole seconds since power-on in 32 bits (R166). -/
def runClock (s : State) : ClockWord := BitVec.ofNat 32 (wholeSeconds s.uptime)

/-- The start load is complete and the part has supply: every block is in service (R166, chapter 10.2). -/
def inService (s : State) : Bool := s.powered && s.mpt.state != .loading

/-- The part runs on its built-in defaults (R167). -/
def unconfigured (s : State) : Bool := s.mpt.configResult != .ok

def channel (s : State) (ch : Channel) : ChannelRecord := s.msc.channels[channelIndex ch]

/-- A channel's value as readers receive it: absent in FAULT, present in VALID and HELD (R4). -/
def channelValue (s : State) (ch : Channel) : Option Int :=
  if (channel s ch).state = .fault then none else (channel s ch).value

def fan (s : State) (f : Fan) : FanRecord := s.fdr.fans.get f

def filterRecord (s : State) (f : Fan) : FilterRecord := s.flm.records.get f

/-- The top entry of the mode stack (R44). -/
def topEntry (m : ModeStack) : ModeEntry := m.above.headD m.base

/-- An entry of this origin is on the stack (R42). -/
def hasEntry (m : ModeStack) (o : Origin) : Bool := m.above.any (fun e => e.origin == o)

/-- The combustion flag: set while a COMBUSTION entry is on the stack (R50). -/
def combustionFlag (s : State) : Bool := hasEntry s.mst .combustion

/-- The top entry is BUTTON or HUM_BOOST: the boosting flag (R117) and the BOOST lamp's cause (R175). -/
def boostingFlag (s : State) : Bool :=
  (topEntry s.mst).origin == .button || (topEntry s.mst).origin == .humBoost

/-- The debounced state of a button is pressed, and of AWAY and CUTOUT closed, while it stands low (R46, R47, R67). -/
def Debounce.low (d : Debounce) : Bool := !d.debouncedHigh

/-- The COMBUSTION contact is active while its debounced state stands high (R47). -/
def combustionActive (s : State) : Bool := s.mst.combustion.debouncedHigh

/-- The supply fan is confirmed running (R38). -/
def confirmedRunning (s : State) : Bool :=
  ((fan s .sup).state == .running || (fan s .sup).state == .settled) && decide (300 ≤ (fan s .sup).measured)

/-- A value that is present and at most `hi`. -/
def presentAtMost (hi : Int) : Option Int → Bool
  | none => false
  | some v => decide (v ≤ hi)

/-- The terms of preheater availability (R68). -/
def preheaterTerms (s : State) : Bool :=
  s.frg.cutout.low && confirmedRunning s && (fan s .sup).state != .fault
    && presentAtMost 400 (channelValue s .tSup)

/-- A FALLBACK timed thaw is in progress (R82). -/
def timedThawOn (s : State) : Bool := s.frg.state == .fallback && s.frg.timedThaw.isSome

/-- The frost guard's announcement (R85). -/
def announcement (s : State) : Announcement :=
  match s.frg.state with
  | .intent => .intent
  | .thawU => .thawU
  | .thawB => .thawB
  | .fallback => if s.frg.timedThaw.isSome then .thawB else .none
  | .clear => .none
  | .watch => .none
  | .preheat => .none
  | .reduce => .none
  | .recover => .none

/-- A position is in an acceptance set (R140). -/
def inSet (set : BitVec 16) (p : Position) : Bool := set.getLsbD p.toNat

/-- The accepted positions: the union of ADJ, REF and PLUME (R140). -/
def acceptedPosition (p : Params) (pos : Position) : Bool := inSet p.adj pos || inSet p.ref pos || inSet p.plume pos

/-! ### Fault records -/

/-- A kind's place in the fault set (R174). -/
def faultIndex : FaultKind → Fin 17
  | .sens ch => ⟨(channelIndex ch).val, by have := (channelIndex ch).isLt; omega⟩
  | .fan .sup => 8
  | .fan .ext => 9
  | .preheatCutout => 10
  | .filterBlocked => 11
  | .configDefaults => 12
  | .recordsLost => 13
  | .memoryWrite => 14
  | .duplicatePosition => 15
  | .lineErrors => 16

def faultRecord (s : State) (k : FaultKind) : FaultRecord := s.srf.faults[faultIndex k]

def setFault (s : State) (k : FaultKind) (r : FaultRecord) : State :=
  { s with srf := { s.srf with faults := s.srf.faults.set (faultIndex k) r } }

/-- One counted change of a record (R174): count up, saturating at 255, and the times stamped from the run clock. -/
def countFault (now : ClockWord) (r : FaultRecord) : FaultRecord where
  active := true
  count := min 255 (r.count + 1)
  first := if r.count = 0 then now else r.first
  last := now

/-- A kind marked active: counted if it was inactive (R174). -/
def markActive (k : FaultKind) (s : State) : State :=
  if (faultRecord s k).active then s else setFault s k (countFault (runClock s) (faultRecord s k))

/-- A kind marked inactive: its count and times are left alone (R174). -/
def markInactive (k : FaultKind) (s : State) : State :=
  setFault s k { faultRecord s k with active := false }

/-- One error of LINE_ERRORS: counted whether the kind was active or not (R137, R174). -/
def markLineError (s : State) : State :=
  setFault s .lineErrors (countFault (runClock s) (faultRecord s .lineErrors))

/-- The FAULT_COUNTS clear of R173: every inactive record's count and times set to 0. -/
def clearCounts (s : State) : State :=
  { s with srf := { s.srf with
      faults := s.srf.faults.map fun r => if r.active then r else FaultRecord.atPowerOn } }

def anyFaultActive (s : State) : Bool := s.srf.faults.toList.any (·.active)

/-! ### Lamps -/

/-- Either filter record is in this state. -/
def eitherFilter (s : State) (p : FilterState → Bool) : Bool :=
  p (filterRecord s .sup).state || p (filterRecord s .ext).state

/-- The FILTER lamp's pattern (R175). -/
def filterPattern (s : State) : LampPattern :=
  if eitherFilter s (fun st => st == .overdue || st == .blocked) then .flash
  else if eitherFilter s (· == .due) then .steady
  else .dark

/-- The FAULT lamp's pattern (R175). -/
def faultPattern (s : State) : LampPattern :=
  if unconfigured s then .doubleFlash
  else if s.lnc.duplicate then .tripleFlash
  else if anyFaultActive s then .steady
  else .dark

/-- A lamp takes a pattern; a flashing pattern begins its cycle at the event that brings it in (R175). -/
def setPattern (p : LampPattern) (l : Lamp) : Lamp :=
  if l.pattern = p then l else ⟨p, 0, 0⟩

/-- The lamps follow their causes from the completion of the start load on; before it they are dark (R175). -/
def refreshLamps (s : State) : State :=
  if inService s then
    { s with srf := { s.srf with
        boostLamp := boostingFlag s
        filterLamp := setPattern (filterPattern s) s.srf.filterLamp
        faultLamp := setPattern (faultPattern s) s.srf.faultLamp } }
  else s

/-- The on and off times of a pattern's cycle in order, on first; a pattern that does not flash has none (R175). -/
def patternTimes : LampPattern → List Nat
  | .dark => []
  | .steady => []
  | .flash => [millis 500, millis 500]
  | .doubleFlash => [millis 200, millis 200, millis 200, millis 1400]
  | .tripleFlash => [millis 200, millis 200, millis 200, millis 200, millis 200, millis 1000]

/-- How long the present place of a lamp's cycle lasts. -/
def placeTime (l : Lamp) : Nat := (patternTimes l.pattern).getD l.place 0

/-- The lamp is lit: steady, or at an on place of a flashing cycle (R175). -/
def lampLit (l : Lamp) : Bool :=
  match l.pattern with
  | .dark => false
  | .steady => true
  | .flash => l.place % 2 == 0
  | .doubleFlash => l.place % 2 == 0
  | .tripleFlash => l.place % 2 == 0

/-- The next place of a flashing lamp's cycle; a lamp that does not flash has none. -/
def nextPlace (l : Lamp) : Lamp :=
  match patternTimes l.pattern with
  | [] => l
  | times => { l with place := (l.place + 1) % times.length, timer := 0 }

end Sys2Proof.Machine
end

