-- ==== Sys2Proof/Machine/Ops.lean ====
section
/-! DEFINITION. The shared operations: the passing of time, timers at their limits, the serial memory, the frame of a
meaning. -/

namespace Sys2Proof.Machine

/-! ### Time -/

/-- A timer that counts up to `limit` and stands there. -/
def countUp (limit d e : Nat) : Nat := min (e + d) (max e limit)

def runTimer (limit d : Nat) (t : Option Nat) : Option Nat := t.map (countUp limit d)

/-- A time left that counts down to 0. -/
def countDown (d : Nat) (t : Option Nat) : Option Nat := t.map (· - d)

/-- A debouncer's candidate timer runs while the level differs from the debounced state (R46). -/
def Debounce.pass (limit d : Nat) (b : Debounce) : Debounce :=
  if b.high = b.debouncedHigh then b else { b with candidate := countUp limit d b.candidate }

def ChannelRecord.pass (d : Nat) (r : ChannelRecord) : ChannelRecord :=
  { r with hold := runTimer channelHold d r.hold }

def Scanner.pass (d : Nat) (m : Scanner) : Scanner :=
  { m with channels := m.channels.map (ChannelRecord.pass d), timer := countUp scanPeriod d m.timer }

def FanRecord.pass (d : Nat) (r : FanRecord) : FanRecord := { r with retryPause := countDown d r.retryPause }

def FanDrive.pass (d : Nat) (m : FanDrive) : FanDrive :=
  { fans := ⟨m.fans.sup.pass d, m.fans.ext.pass d⟩, timer := runTimer fanPeriod d m.timer }

def ModeStack.pass (d : Nat) (m : ModeStack) : ModeStack :=
  { m with
    climateTimer := runTimer climatePeriod d m.climateTimer
    countdown := runTimer countdownPeriod d m.countdown
    boost := m.boost.pass buttonDebounce d
    away := m.away.pass contactDebounce d
    combustion := m.combustion.pass contactDebounce d }

def FrostGuard.pass (thawMax d : Nat) (m : FrostGuard) : FrostGuard :=
  { m with
    iceHold := runTimer iceHoldTime d m.iceHold
    cutout := m.cutout.pass contactDebounce d
    holdoff := runTimer holdoffTime d m.holdoff
    thaw := runTimer thawMax d m.thaw
    recover := runTimer recoverTime d m.recover
    fallbackCycle := runTimer frostInterval d m.fallbackCycle
    timedThaw := runTimer timedThawTime d m.timedThaw
    heatLeft := countDown d m.heatLeft
    timer := runTimer frostPeriod d m.timer }

def FilterRecord.pass (d : Nat) (r : FilterRecord) : FilterRecord :=
  { r with blocked := runTimer blockedTime d r.blocked }

def FilterMonitor.pass (d : Nat) (m : FilterMonitor) : FilterMonitor :=
  { m with
    records := ⟨m.records.sup.pass d, m.records.ext.pass d⟩
    button := m.button.pass buttonDebounce d
    hold := runTimer filterHoldTime d m.hold }

def Humidity.pass (d : Nat) (m : Humidity) : Humidity := { m with timer := runTimer humidityPeriod d m.timer }

/-- The bits read once the reception has run for this time (R120): each bit of the line at the end of its bit time. -/
def LineController.readUpTo (m : LineController) : Option Nat → List LineBit
  | none => m.read
  | some e => m.read ++ nextBits (e / bitTimes 1 - m.read.length) m

/-- IN_END follows IN_FRAME after the last CRC bit and its stuff bit (R122). -/
def LineController.phaseAfter (m : LineController) (read : List LineBit) : LinePhase :=
  if m.phase = .inFrame ∧ (readerOf read).inEnd = true then .inEnd else m.phase

/-- The line controller's timers. In WAITING the line is read recessive unless a dominant sample is commanded, so the
idle count rises (R122); two bit times without a dominant sample hold a recessive one, which ends a dominant run and a
stuck one (R128). -/
def LineController.pass (d : Nat) (m : LineController) : LineController :=
  { m with
    idleRun := if m.phase = .waiting ∧ m.state ≠ .off then countUp idleSpace d m.idleRun else m.idleRun
    dominantRun := if m.idleRun + d < bitTimes 2 then m.dominantRun else 0
    stuckDeclared := m.stuckDeclared && decide (m.idleRun + d < bitTimes 2)
    frameTime := runTimer frameLimit d m.frameTime
    read := m.readUpTo (runTimer frameLimit d m.frameTime)
    phase := m.phaseAfter (m.readUpTo (runTimer frameLimit d m.frameTime))
    quiet := runTimer quietTime d m.quiet
    listenIn := runTimer listenInTime d m.listenIn
    statePeriod := runTimer statePeriodTime d m.statePeriod }

def PeerTable.pass (d : Nat) (m : PeerTable) : PeerTable := { m with timer := runTimer ageingPeriod d m.timer }

def Outdoor.pass (d : Nat) (m : Outdoor) : Outdoor := { m with plumeHold := runTimer plumeHoldTime d m.plumeHold }

def MemoryPort.pass (d : Nat) (m : MemoryPort) : MemoryPort :=
  { m with
    settling := runTimer settlingWait d m.settling
    busyPoll := runTimer busyPollTime d m.busyPoll
    busyTime := runTimer busyLimit d m.busyTime
    savePoll := runTimer savePollTime d m.savePoll
    saveBusy := runTimer saveBusyLimit d m.saveBusy }

def Lamp.pass (d : Nat) (l : Lamp) : Lamp := { l with timer := countUp (placeTime l) d l.timer }

def Service.pass (d : Nat) (m : Service) : Service :=
  { m with filterLamp := m.filterLamp.pass d, faultLamp := m.faultLamp.pass d }

/-- `d` ticks pass in a part that has supply: the run clock and every running timer go on, each to its own limit. -/
def passTime (d : Nat) (s : State) : State :=
  if s.powered then
    { s with
      uptime := s.uptime + d
      msc := s.msc.pass d
      fdr := s.fdr.pass d
      mst := s.mst.pass d
      frg := s.frg.pass (minutes s.params.tThawMax) d
      flm := s.flm.pass d
      hev := s.hev.pass d
      lnc := s.lnc.pass d
      ptb := s.ptb.pass d
      odr := s.odr.pass d
      mpt := s.mpt.pass d
      srf := s.srf.pass d }
  else s

/-- A timed event is taken at the moment its timer reaches its limit: the part's time is carried forward to that moment
and the effect follows. A stopped timer has no such moment, and nothing happens (logs 2 and 3). -/
def atLimit (limit : Nat) (timer : Option Nat) (effect : State → State) (s : State) : State :=
  match timer with
  | none => s
  | some e => effect (passTime (limit - e) s)

/-- As `atLimit` for a timer that holds the time left. -/
def atEnd (left : Option Nat) (effect : State → State) (s : State) : State :=
  match left with
  | none => s
  | some r => effect (passTime r s)

/-! ### The frame of a meaning -/

/-- A command taken by a part that has supply; without supply nothing happens (log 3). The lamps then follow. -/
def whenPowered (effect : State → State) (s : State) : Host.Outcome State Fault Refusal :=
  if s.powered then .next (refreshLamps (effect s)) else .next s

/-- A command taken by a block that is in service, from the completion of the start load on (chapter 10.2). -/
def whenInService (effect : State → State) (s : State) : Host.Outcome State Fault Refusal :=
  if inService s then .next (refreshLamps (effect s)) else .next s

/-! ### The serial memory -/

/-- What a byte of the serial memory reads as that nothing has written (DESIGN CHOICE, log 8). -/
def erasedByte : Byte := 0xFF

/-- One byte of the serial memory. -/
def readByte : List Host.Cell → Nat → Byte
  | [], _ => erasedByte
  | (k, b) :: rest, a => if k = a then b else readByte rest a

/-- Writing one byte: the list stays in rising order, and a byte equal to the unlisted value is not listed. -/
def writeByte (a : Nat) (v : Byte) : List Host.Cell → List Host.Cell
  | [] => if v = erasedByte then [] else [(a, v)]
  | (k, b) :: rest =>
    if k < a then (k, b) :: writeByte a v rest
    else if k = a then if v = erasedByte then rest else (a, v) :: rest
    else if v = erasedByte then (k, b) :: rest else (a, v) :: (k, b) :: rest

/-- Every listed address is above `low`, the addresses rise, and no listed byte equals the unlisted value. -/
def cellsAbove (low : Nat) : List Host.Cell → Bool
  | [] => true
  | (k, b) :: rest => decide (low ≤ k) && b != erasedByte && cellsAbove (k + 1) rest

/-- The canonical form of the serial memory's contents. -/
def Memory.wf (m : List Host.Cell) : Bool := cellsAbove 0 m

/-- The 253 bytes the start load reads in one transfer from address 0 (R166, R177). -/
def readImage (m : List Host.Cell) : List Byte := (List.range 253).map (readByte m)

/-! ### Setting one thing of a block -/

def setChannel (s : State) (ch : Channel) (r : ChannelRecord) : State :=
  { s with msc := { s.msc with channels := s.msc.channels.set (channelIndex ch) r } }

def setFan (s : State) (f : Fan) (r : FanRecord) : State :=
  { s with fdr := { s.fdr with fans := s.fdr.fans.set f r } }

def setFilter (s : State) (f : Fan) (r : FilterRecord) : State :=
  { s with flm := { s.flm with records := s.flm.records.set f r } }

/-! ### Debouncing -/

/-- A pin's new level (R46): the candidate timer is 0 while the level agrees with the debounced state. A release ends
the holding down of a button since the start load (log 15). -/
def Debounce.setLevel (high : Bool) (b : Debounce) : Debounce :=
  { b with
    high := high
    candidate := if high = b.debouncedHigh then 0 else b.candidate
    heldAtStart := b.heldAtStart && !high }

/-- The debounced state changes to match the level, and the candidate timer returns to 0 (R46). -/
def Debounce.settle (b : Debounce) : Debounce := { b with debouncedHigh := b.high, candidate := 0 }

/-- A button at the completion of the start load: held down across it if its pin is low (R46, R102, log 15). -/
def Debounce.atStart (b : Debounce) : Debounce := { b with heldAtStart := !b.high }

/-- The level differs from the debounced state, so a candidate timer runs, with this much elapsed (R46). -/
def Debounce.running (b : Debounce) : Option Nat := if b.high = b.debouncedHigh then none else some b.candidate

end Sys2Proof.Machine
end

