-- ==== Sys2Proof/Machine/Fans.lean ====
section
/-! DEFINITION. Flow resolution, speed targets, duty and fan states (chapter 2). -/

namespace Sys2Proof.Machine

/-! ### Flow resolution, stages S1 to S8 -/

/-- The level set in use: COMBUSTION while the top entry's origin is COMBUSTION, else the climate set (R18, R55). -/
def levelSetInUse (s : State) : LevelSet :=
  if (topEntry s.mst).origin = .combustion then s.params.combustion
  else
    match s.mst.climate with
    | .mild => s.params.mild
    | .normal => s.params.normal
    | .cold => s.params.cold

/-- S1: the level pair (R18). -/
def stageS1 (s : State) : FlowPair := (levelSetInUse s)[(topEntry s.mst).level]

/-- Both flows at the smallest of them and Q_thawB (R19). -/
def thawPair (cap : Nat) (p : FlowPair) : FlowPair :=
  ⟨min (min p.supply p.extract) cap, min (min p.supply p.extract) cap⟩

/-- S2: the frost state (R19). -/
def stageS2 (s : State) (p : FlowPair) : FlowPair :=
  match s.frg.state with
  | .clear => p
  | .watch => p
  | .preheat => p
  | .recover => p
  | .reduce => { p with supply := p.supply * s.params.kR / 256 }
  | .intent => { p with supply := p.supply * s.params.kR / 256 }
  | .thawU => { p with supply := 0 }
  | .thawB => thawPair s.params.qThawB p
  | .fallback => if s.frg.timedThaw.isSome then thawPair s.params.qThawB p else p

/-- S3: a failed fan (R20). -/
def stageS3 (s : State) (p : FlowPair) : FlowPair :=
  ⟨if (fan s .sup).state = .fault then 0 else p.supply, if (fan s .ext).state = .fault then 0 else p.extract⟩

/-- S4: the cap of a blocked filter (R21). -/
def stageS4 (s : State) (p : FlowPair) : FlowPair :=
  if eitherFilter s (· == .blocked) then ⟨min p.supply s.params.qBlockCap, min p.extract s.params.qBlockCap⟩ else p

/-- A flow that is not 0 limited to Qmin_run to Qmax (R22). -/
def workingRange (p : Params) (q : Nat) : Nat := if q = 0 then 0 else limitNat p.qminRun p.qmax q

/-- S5: the working range (R22). -/
def stageS5 (s : State) (p : FlowPair) : FlowPair := ⟨workingRange s.params p.supply, workingRange s.params p.extract⟩

/-- The larger flow reduced to the smaller plus lim (R23, R25). -/
def limitGap (lim : Nat) (p : FlowPair) : FlowPair :=
  if p.extract + lim < p.supply then { p with supply := p.extract + lim }
  else if p.supply + lim < p.extract then { p with extract := p.supply + lim }
  else p

/-- The balance of S8 and of the guard of R26 (R25): under combustion an extract above the supply is reduced to it; where
that is not so, the larger flow is reduced to the smaller plus lim. That the second part also holds under combustion is
DEDUCED from the balance law of R26, from R34 and from R84 (log 11). -/
def balancePair (combustion : Bool) (lim : Nat) (p : FlowPair) : FlowPair :=
  if combustion && decide (p.supply < p.extract) then { p with extract := p.supply } else limitGap lim p

/-- S6: the resolved target (R23). Under combustion the supply is left alone. -/
def stageS6 (s : State) (p : FlowPair) : FlowPair :=
  if s.frg.state = .thawU then p
  else if p.supply = 0 ∨ p.extract = 0 then ⟨0, 0⟩
  else if combustionFlag s then { p with extract := min p.extract p.supply }
  else limitGap s.params.lim p

/-- The resolved target: stages S1 to S6. -/
def resolve (s : State) : FlowPair :=
  stageS6 s (stageS5 s (stageS4 s (stageS3 s (stageS2 s (stageS1 s)))))

/-- S7 for one fan: down at once, up by slew at most (R24). -/
def slewToward (slew target commanded : Nat) : Nat :=
  if target ≤ commanded then target else min target (commanded + slew)

/-- The commanded flows as a pair. -/
def commandedPair (s : State) : FlowPair := ⟨(fan s .sup).commanded, (fan s .ext).commanded⟩

/-- S7 (R24). -/
def stageS7 (s : State) (target : FlowPair) : FlowPair :=
  ⟨slewToward s.params.slew target.supply (fan s .sup).commanded,
    slewToward s.params.slew target.extract (fan s .ext).commanded⟩

/-- S8: the guard of the commanded pair, skipped in THAW_U (R25). -/
def stageS8 (s : State) (p : FlowPair) : FlowPair :=
  if s.frg.state = .thawU then p else balancePair (combustionFlag s) s.params.lim p

/-! ### Speed targets -/

def calibration (p : Params) : Fan → Calibration
  | .sup => p.calSupply
  | .ext => p.calExtract

/-- The base speed at a flow of Q1 or above: interpolated between neighbouring points, the last point's speed above
it (R28). -/
def interpolate (q : Nat) : List CalibrationPoint → Nat
  | [] => 0
  | [a] => a.n
  | a :: b :: rest =>
    if q ≤ b.q then a.n + (q - a.q) * (b.n - a.n) / (b.q - a.q) else interpolate q (b :: rest)

/-- The base speed (R28). -/
def baseSpeed (table : Calibration) (q : Nat) : Nat :=
  if q < table[0].q then table[0].n * q / table[0].q else interpolate q table.toList

/-- The loading L of a fan's air path: F_SUP's index or LX, and 0 for an unreferenced record (R29). -/
def pathLoading (s : State) : Fan → Nat
  | .sup => if (filterRecord s .sup).referenced then (filterRecord s .sup).index else 0
  | .ext => if (filterRecord s .ext).referenced then s.flm.lx else 0

/-- The speed the flow calls for, before the limit n_max (R29). -/
def loadedSpeed (s : State) (f : Fan) (q : Nat) : Nat :=
  baseSpeed (calibration s.params f) q * (256 + pathLoading s f) / 256

/-- The speed target n* (R29). -/
def speedTarget (s : State) (f : Fan) (q : Nat) : Nat := min (loadedSpeed s f q) s.params.nMax

/-- The shortfall test of R30: the flow is above Q5, or the speed target was limited to n_max. -/
def shortfallTest (s : State) (f : Fan) (q : Nat) : Bool :=
  decide ((calibration s.params f)[4].q < q) || decide (s.params.nMax < loadedSpeed s f q)

/-! ### Duty -/

/-- The duty update of R31: 0 at flow 0, duty_min at the start, else the integrating correction, limited to duty_min to
1000. -/
def nextDuty (p : Params) (commanded target measured duty : Nat) : Nat :=
  if commanded = 0 then 0
  else if duty = 0 then p.dutyMin
  else
    (limitInt p.dutyMin 1000 ((duty : Int) + (((target : Int) - (measured : Int)) * (p.ki : Int)).tdiv 256)).toNat

/-! ### Fan states -/

/-- The settling condition (R33). -/
def settlingCondition (r : FanRecord) : Bool :=
  r.commanded == r.target && decide (r.measured ≤ r.speedTarget + r.speedTarget / 16)
    && decide (r.speedTarget ≤ r.measured + r.speedTarget / 16)

/-- A fan reaches SETTLED: its retry count is 0 from then on (R33). -/
def toSettled (r : FanRecord) : FanRecord := { r with state := .settled, settle := settleSeconds, retryCount := 0 }

/-- The settling test of a fan in RUNNING or SETTLED with a flow above 0 (R33). -/
def settleTest (r : FanRecord) : FanRecord :=
  if settlingCondition r then
    if r.state = .running ∧ settleSeconds ≤ r.settle + 1 then toSettled r
    else { r with settle := min settleSeconds (r.settle + 1) }
  else { r with state := .running, settle := 0 }

/-- The state update of R33 from the new commanded flow. A fan that was OFF goes to RUNNING with its timer at 0, and is
tested from the next evaluation on (DEDUCED, log 12). -/
def settleUpdate (r : FanRecord) : FanRecord :=
  match r.state with
  | .fault => r
  | .off => if r.commanded = 0 then { r with settle := 0, stall := 0 } else { r with state := .running, settle := 0 }
  | .running => if r.commanded = 0 then { r with state := .off, settle := 0, stall := 0 } else settleTest r
  | .settled => if r.commanded = 0 then { r with state := .off, settle := 0, stall := 0 } else settleTest r

/-- The stall time, 2^k − 1 s (R34). -/
def stallTime (p : Params) : Nat := 2 ^ p.stallK - 1

/-- The stall condition (R34). -/
def stallCondition (p : Params) (r : FanRecord) : Bool :=
  decide (0 < r.commanded) && decide (950 ≤ r.duty) && decide (r.measured < p.nStall)

/-- The retry pause a fan enters FAULT with (R35). -/
def retryPauseFor (count : Nat) : Nat := if count < 3 then shortPause else longPause

/-- A fan enters FAULT (R34, R35). -/
def toFault (r : FanRecord) : FanRecord :=
  { r with
    state := .fault
    commanded := 0
    duty := 0
    speedTarget := 0
    settle := 0
    stall := 0
    retryPause := some (retryPauseFor r.retryCount) }

/-- The fan turns: its state is RUNNING or SETTLED. -/
def FanRecord.turning (r : FanRecord) : Bool := r.state == .running || r.state == .settled

/-- The stall update of R34. -/
def stallUpdate (p : Params) (r : FanRecord) : FanRecord :=
  if r.turning then
    if stallCondition p r then
      if stallTime p ≤ r.stall + 1 then toFault r else { r with stall := r.stall + 1 }
    else { r with stall := 0 }
  else r

/-- The fan goes back to RUNNING at the end of its retry pause, with this retry count (R35, R36). -/
def retryFan (count : Nat) (r : FanRecord) : FanRecord :=
  { r with state := .running, retryCount := count, settle := 0, stall := 0, retryPause := none }

/-- CLEAR FAN_RETRY on one fan (R36). -/
def clearRetry (r : FanRecord) : FanRecord :=
  if r.state = .fault then retryFan 0 r else { r with retryCount := 0 }

/-! ### The parts of an evaluation -/

/-- First to third part for one fan: target, flow, speed target, shortfall, duty (R17). -/
def driveFan (f : Fan) (target commanded : Nat) (s : State) : State :=
  setFan s f
    { fan s f with
      target := target
      commanded := commanded
      speedTarget := speedTarget s f commanded
      shortfall := shortfallTest s f commanded
      duty := nextDuty s.params commanded (speedTarget s f commanded) (fan s f).measured (fan s f).duty }

/-- The first three parts for both fans: stages S1 to S8, then speed targets and duties (R17). -/
def driveFans (s : State) : State :=
  let target := resolve s
  let commanded := stageS8 s (stageS7 s target)
  driveFan .ext target.extract commanded.extract (driveFan .sup target.supply commanded.supply s)

/-- A fan's settling update; its fault kind is marked inactive when it enters SETTLED (R33, R37). -/
def settleFan (f : Fan) (s : State) : State :=
  let r := settleUpdate (fan s f)
  if (fan s f).state ≠ .settled ∧ r.state = .settled then markInactive (.fan f) (setFan s f r) else setFan s f r

/-- A fan's stall update; its fault kind is marked active when it enters FAULT (R34, R37). -/
def stallFan (f : Fan) (s : State) : State :=
  let r := stallUpdate s.params (fan s f)
  if (fan s f).state ≠ .fault ∧ r.state = .fault then markActive (.fan f) (setFan s f r) else setFan s f r

/-! ### The guard of R26 -/

/-- A fan whose commanded flow the guard changes (R26): its speed target is worked out again; at flow 0 it goes OFF with
duty 0; a SETTLED fan with a flow above 0 goes to RUNNING. -/
def guardFan (f : Fan) (q : Nat) (s : State) : State :=
  let r := fan s f
  if r.commanded = q then s
  else
    setFan s f
      { r with
        commanded := q
        speedTarget := speedTarget s f q
        duty := if q = 0 then 0 else r.duty
        state := if q = 0 then (if r.state = .fault then .fault else .off)
          else if r.state = .settled then .running else r.state
        settle := if q ≠ 0 ∧ r.state = .settled then 0 else r.settle }

/-- The guarded pair: the guard of S8; at the appearance of a COMBUSTION entry its combustion part in THAW_U as
well (R26). -/
def guardedPair (combustionAppears : Bool) (s : State) : FlowPair :=
  let p := commandedPair s
  if s.frg.state = .thawU then
    if combustionAppears && decide (p.supply < p.extract) then { p with extract := p.supply } else p
  else balancePair (combustionFlag s) s.params.lim p

/-- The at-event guard on the commanded pair (R26). -/
def guardFlows (combustionAppears : Bool) (s : State) : State :=
  let p := guardedPair combustionAppears s
  guardFan .ext p.extract (guardFan .sup p.supply s)

end Sys2Proof.Machine
end

