-- ==== Sys2Proof/Machine/MemoryPort.lean ====
section
/-! DEFINITION. Saving the records (chapter 10.3): save requests, the bytes of a save, its end. -/

namespace Sys2Proof.Machine

/-- The record block's first address in the image (R177). -/
def recordBase : Nat := 226

/-- Transactions with the memory (R166): a status read, a read from an address, a write enable and a write. -/
def statusRead : List Byte := [0x05]
def readFrom (a : Nat) : List Byte := [0x03, BitVec.ofNat 8 a]
def writeEnable : List Byte := [0x06]
def writeTo (a : Nat) (v : Byte) : List Byte := [0x02, BitVec.ofNat 8 a, v]

/-- A status that reads all ones is no response (R166, R170). -/
def noResponse (status : Byte) : Bool := status == 0xFF

/-- Bit 0 of the status byte is 1 while the memory is busy (R166). -/
def memoryBusy (status : Byte) : Bool := status.getLsbD 0

/-- The byte a save is writing. -/
def saveByte (sv : Save) : Byte := sv.bytes.getD sv.place 0

/-- The address of the byte a save is writing. -/
def saveAddress (sv : Save) : Nat := recordBase + sv.place

/-- The write of the byte at the save's place begins (R170). The first status read comes 1 ms after it (DESIGN CHOICE,
log 35). -/
def startByte (sv : Save) (s : State) : State :=
  { s with mpt := { s.mpt with
      state := .saving
      save := some sv
      savePoll := some 0
      saveBusy := some 0
      sent := [writeEnable, writeTo (saveAddress sv) (saveByte sv)]
      select := false } }

/-- A save begins with a copy of both records and its sum byte (R170). -/
def beginSave (s : State) : State := startByte ⟨recordBlock s.flm.records, 0, false⟩ s

/-- A save request (R169): begun at once in IDLE, merged into one further save in SAVING, failed at once when the port has
no place it may write. -/
def requestSave (s : State) : State :=
  match s.mpt.state with
  | .loading => s
  | .idle => if s.mpt.locationKnown then beginSave s else markActive .memoryWrite s
  | .saving => { s with mpt := { s.mpt with savePending := true } }

/-- The save requests of one operation, handed over after it (R105). -/
def requestSaves : Nat → State → State
  | 0, s => s
  | n + 1, s => requestSaves n (requestSave s)

/-- The end of a save, completed or failed (R169): a pending request begins a new save, otherwise the port is IDLE. -/
def endSave (s : State) : State :=
  if s.mpt.savePending then beginSave { s with mpt := { s.mpt with savePending := false } }
  else { s with mpt := { s.mpt with state := .idle, save := none, savePoll := none, saveBusy := none, select := false } }

/-- The byte being written when its save ends early holds its old or its new value (R171, log 9). -/
def byteUndecided (sv : Save) (s : State) : State :=
  { s with
    memory := if Config.byteLands s.freeIndex then writeByte (saveAddress sv) (saveByte sv) s.memory else s.memory
    freeIndex := s.freeIndex + 1 }

/-- A failed byte abandons the save (R170). -/
def failByte (sv : Save) (s : State) : State := endSave (markActive .memoryWrite (byteUndecided sv s))

/-- A save whose every byte has read back correctly completes (R170). -/
def completeSave (s : State) : State := endSave (markInactive .recordsLost (markInactive .memoryWrite s))

/-- A byte has been read back as written (R170): it stands in the memory, and the next byte is written or the save
completes. -/
def byteWritten (sv : Save) (s : State) : State :=
  let s := { s with memory := writeByte (saveAddress sv) (saveByte sv) s.memory }
  if sv.place + 1 < sv.bytes.length then startByte { sv with place := sv.place + 1, reading := false } s
  else completeSave s

/-- A status read before what the port sends next (R166). -/
def afterStatusRead (s : State) : State := { s with mpt := { s.mpt with sent := statusRead :: s.mpt.sent } }

/-- One look at the memory during a byte's write (R170). A save that begins where this one fails is sent after the look. -/
def lookAtSave (sv : Save) (status : Byte) (s : State) : State :=
  if noResponse status then afterStatusRead (failByte sv { s with mpt := { s.mpt with sent := [] } })
  else if memoryBusy status then { s with mpt := { s.mpt with savePoll := some 0, sent := [statusRead] } }
  else
    { s with mpt := { s.mpt with
        save := some { sv with reading := true }
        savePoll := none
        saveBusy := none
        sent := [statusRead, readFrom (saveAddress sv)]
        select := true } }

/-- The save whose byte is waiting for the memory to show ready. -/
def savePolling (s : State) : Option Save := s.mpt.save.filter (fun sv => !sv.reading)

/-- The save whose byte is being read back. -/
def saveReading (s : State) : Option Save := s.mpt.save.filter (·.reading)

/-- SAVE_STATUS_POLL (R170). -/
def execSaveStatusPoll (status : Byte) (s : State) : Host.Outcome State Fault Refusal :=
  whenInService
    (fun s =>
      match savePolling s with
      | none => s
      | some sv => atLimit savePollTime s.mpt.savePoll (lookAtSave sv status) s) s

/-- SAVE_BYTE_TIMEOUT (R170): the memory still shows busy 10 ms after the write. -/
def execSaveByteTimeout (s : State) : Host.Outcome State Fault Refusal :=
  whenInService
    (fun s =>
      match savePolling s with
      | none => s
      | some sv => atLimit saveBusyLimit s.mpt.saveBusy (failByte sv) s) s

/-- SAVE_BYTE_READBACK (R170): the byte read back is compared with the byte written. -/
def execSaveByteReadback (value : Byte) (s : State) : Host.Outcome State Fault Refusal :=
  whenInService
    (fun s =>
      match saveReading s with
      | none => s
      | some sv => if value = saveByte sv then byteWritten sv s else failByte sv s) s

end Sys2Proof.Machine
end

