-- ==== Sys2Proof/Machine/Filters.lean ====
section
/-! DEFINITION. The filter monitor (chapter 5): counting, path indices, record states, reference capture, filter change. An
operation on a record answers the record and how many saves it requests (R104). -/

namespace Sys2Proof.Machine

/-- UNREFERENCED, CLEAN or LOADING (section 5.5). -/
def belowDue : FilterState → Bool
  | .unreferenced => true
  | .clean => true
  | .loading => true
  | .due => false
  | .overdue => false
  | .blocked => false

/-- Entry to DUE: the hours in DUE start from 0 (R97). -/
def enterDue (r : FilterRecord) : FilterRecord := { r with state := .due, hoursDue := 0 }

/-- The hour and volume conditions of R97. -/
def dueByCounts (p : Params) (r : FilterRecord) : Bool :=
  decide (p.dueHours ≤ r.runHours) || decide (p.dueVol ≤ r.volume)

/-- The hour and volume test of R97. -/
def testCounts (p : Params) (r : FilterRecord) : FilterRecord × Nat :=
  if belowDue r.state && dueByCounts p r then (enterDue r, 1) else (r, 0)

/-- DUE goes to OVERDUE when its hours in DUE reach 720 (R97). -/
def testOverdue (r : FilterRecord) : FilterRecord × Nat :=
  if r.state = .due ∧ dueHoursLimit ≤ r.hoursDue then ({ r with state := .overdue }, 1) else (r, 0)

/-- A cubic metre is full (R92): the remainder falls by 10,000, the volume rises, and the volume condition is tested. A
saturated volume does not rise. -/
def rollVolume (p : Params) (r : FilterRecord) : FilterRecord × Nat :=
  if r.remainder < 10000 then (r, 0)
  else if r.volume < 16777215 then
    testCounts p { r with remainder := r.remainder - 10000, volume := r.volume + 1 }
  else ({ r with remainder := r.remainder - 10000 }, 0)

/-- What a rise of the run hours brings (R97): an hour in DUE is counted in a record that is DUE, and any other record is
tested against the hour and volume conditions. A record loaded as DUE with its hours in DUE at 720 already becomes OVERDUE
at its next rise, with the count left at 720 (DESIGN CHOICE, log 32). -/
def runHourRise (p : Params) (r : FilterRecord) : FilterRecord × Nat :=
  if r.state = .due then testOverdue { r with hoursDue := min dueHoursLimit (r.hoursDue + 1) } else testCounts p r

/-- F_SUP's run hours rise to a multiple of 24: a save is requested (R92, R104). -/
def cadenceSave (f : Fan) (hours : Nat) : Nat := if f = .sup ∧ hours % 24 = 0 then 1 else 0

/-- A run hour is full (R92). Saturated run hours do not rise. -/
def rollHour (p : Params) (f : Fan) (r : FilterRecord) : FilterRecord × Nat :=
  if r.runSeconds < 3600 then (r, 0)
  else if r.runHours < 65535 then
    let risen := runHourRise p { r with runSeconds := 0, runHours := r.runHours + 1 }
    (risen.1, risen.2 + cadenceSave f (r.runHours + 1))
  else ({ r with runSeconds := 0 }, 0)

/-- One second of volume and run time at commanded flow `q` (R92). Where the second fills both a cubic metre and a run hour,
the volume is tested before the hour rises, so a record that the volume brings to DUE counts that hour (DESIGN CHOICE,
log 37). -/
def countSecond (p : Params) (f : Fan) (q : Nat) (r : FilterRecord) : FilterRecord × Nat :=
  if q = 0 then (r, 0)
  else
    let v := rollVolume p { r with remainder := r.remainder + q }
    let h := rollHour p f { v.1 with runSeconds := v.1.runSeconds + 1 }
    (h.1, v.2 + h.2)

/-- The normalised pressure of R93, limited to 65535. -/
def normalisedPressure (dp qRef q : Nat) : Nat := min 65535 (dp * qRef * qRef / (q * q))

/-- The path index of R93: dpN × 64 / dp_ref − 64, limited to 0 to 255. -/
def pathIndex (dp dpRef qRef q : Nat) : Nat := min 255 (normalisedPressure dp qRef q * 64 / dpRef - 64)

/-- The path's pressure channel. -/
def pressureChannel : Fan → Channel
  | .sup => .pSupf
  | .ext => .pExt

/-- The fan is SETTLED at a commanded flow of Q_meas_min or more: a condition of R93 and of R100. -/
def measurable (p : Params) (fanRec : FanRecord) : Bool :=
  fanRec.state == .settled && decide (p.qMeasMin ≤ fanRec.commanded)

/-- The new path index, where the four conditions of R93 hold. -/
def newIndex (p : Params) (fanRec : FanRecord) (dp : Option Int) (r : FilterRecord) : Option Nat :=
  match measurable p fanRec, dp, r.dpRef, r.qRef with
  | true, some v, some dpRef, some qRef => some (pathIndex v.toNat dpRef qRef fanRec.commanded)
  | _, _, _, _ => none

/-- DUE by the index, otherwise CLEAN and LOADING (R96, R97). -/
def indexState (p : Params) (r : FilterRecord) : FilterRecord × Nat :=
  if belowDue r.state ∧ p.dueIdx ≤ r.index then (enterDue r, 1)
  else if r.state = .clean ∧ 16 ≤ r.index then ({ r with state := .loading }, 0)
  else if r.state = .loading ∧ r.index < 8 then ({ r with state := .clean }, 0)
  else (r, 0)

/-- The blocked timer at an index update (R98): started or left running at block_idx or more, stopped below it. Only a
referenced record that is not BLOCKED qualifies. -/
def qualifyBlocked (p : Params) (r : FilterRecord) : FilterRecord :=
  if r.referenced && r.state != .blocked && r.state != .unreferenced then
    { r with blocked := if p.blockIdx ≤ r.index then some (r.blocked.getD 0) else none }
  else r

/-- The tests made at an index update (R96 to R98). -/
def indexTests (p : Params) (r : FilterRecord) : FilterRecord × Nat :=
  let t := indexState p r
  (qualifyBlocked p t.1, t.2)

/-- An index update of a record (R94, R95). -/
def updateIndex (p : Params) (index : Nat) (r : FilterRecord) : FilterRecord × Nat :=
  indexTests p { r with index := index }

/-- A capture attempt (R101): the reference is taken at 5 Pa or more, otherwise the qualification restarts. -/
def attemptCapture (dp q : Nat) (r : FilterRecord) : FilterRecord × Nat :=
  if 5 ≤ dp then
    ({ r with
        dpRef := some dp
        qRef := some q
        capture := none
        state := if r.state = .unreferenced then .clean else r.state
        index := if r.state = .unreferenced then 0 else r.index }, 1)
  else ({ r with capture := some 0 }, 0)

/-- The capture conditions of R100; `iceFree` is "the ice-possible flag is clear" for F_EXT. -/
def captureConditions (p : Params) (fanRec : FanRecord) (dp : Option Int) (iceFree : Bool) (r : FilterRecord) : Bool :=
  measurable p fanRec && dp.isSome && iceFree && r.previousFlow == some fanRec.commanded

/-- An unreferenced record's capture qualification at an evaluation (R100, R101). -/
def qualifyCapture (p : Params) (fanRec : FanRecord) (dp : Option Int) (iceFree : Bool) (r : FilterRecord) :
    FilterRecord × Nat :=
  if r.referenced then ({ r with capture := none }, 0)
  else if captureConditions p fanRec dp iceFree r then
    match r.capture with
    | none => ({ r with capture := some 0 }, 0)
    | some t =>
      if captureSeconds ≤ t + 1 then attemptCapture (dp.getD 0).toNat fanRec.commanded r
      else ({ r with capture := some (t + 1) }, 0)
  else ({ r with capture := none }, 0)

/-- F_EXT may be captured, and its index may move, only while ice is not possible (R95, R100). -/
def iceFree (s : State) : Fan → Bool
  | .sup => true
  | .ext => !s.frg.icePossible

/-- The ice index worked out from LX and F_EXT's frozen index (R66). -/
def iceIndexOf (s : State) : Nat :=
  if s.frg.icePossible && s.flm.records.ext.referenced then min 255 (s.flm.lx - s.flm.records.ext.index) else 0

/-- Second and third part of the evaluation of the supply path (R93, R94). -/
def evaluateSupplyIndex (s : State) : State × Nat :=
  match newIndex s.params (fan s .sup) (channelValue s .pSupf) (filterRecord s .sup) with
  | none => (s, 0)
  | some i =>
    let t := updateIndex s.params i (filterRecord s .sup)
    (setFilter s .sup t.1, t.2)

/-- Second and third part of the evaluation of the extract path (R93, R95): LX moves, F_EXT follows while the
ice-possible flag is clear, and the frost guard takes the new LX for its ice index (R66). -/
def evaluateExtractIndex (s : State) : State × Nat :=
  match newIndex s.params (fan s .ext) (channelValue s .pExt) (filterRecord s .ext) with
  | none => (s, 0)
  | some i =>
    let t := if s.frg.icePossible then (filterRecord s .ext, 0) else updateIndex s.params i (filterRecord s .ext)
    let s := setFilter { s with flm := { s.flm with lx := i } } .ext t.1
    ({ s with frg := { s.frg with iceIndex := iceIndexOf s } }, t.2)

/-- First part of a path's evaluation (R92). -/
def countPath (f : Fan) (s : State) : State × Nat :=
  let t := countSecond s.params f (fan s f).commanded (filterRecord s f)
  (setFilter s f t.1, t.2)

/-- Fourth part of a path's evaluation (R100, R101), and the flow kept for the next one. -/
def capturePath (f : Fan) (s : State) : State × Nat :=
  let t := qualifyCapture s.params (fan s f) (channelValue s (pressureChannel f)) (iceFree s f) (filterRecord s f)
  (setFilter s f { t.1 with previousFlow := some (fan s f).commanded }, t.2)

def evaluateIndex : Fan → State → State × Nat
  | .sup => evaluateSupplyIndex
  | .ext => evaluateExtractIndex

/-- The evaluation of one path in its four parts (R89). -/
def evaluatePath (f : Fan) (s : State) : State × Nat :=
  let a := countPath f s
  let b := evaluateIndex f a.1
  let c := capturePath f b.1
  (c.1, a.2 + b.2 + c.2)

/-- The filter evaluation (R89): both paths, and then the save requests (R105). -/
def evaluateFilters (s : State) : State :=
  let a := evaluatePath .sup s
  let b := evaluatePath .ext a.1
  requestSaves (a.2 + b.2) b.1

/-- A fan that has left SETTLED breaks its path's capture qualification (R100). -/
def breakCapture (f : Fan) (s : State) : State :=
  if (fan s f).state = .settled then s else setFilter s f { filterRecord s f with capture := none }

def breakCaptures (s : State) : State := breakCapture .ext (breakCapture .sup s)

/-- The ice-possible flag is set (R65, R66, R100): F_EXT is held, its capture qualification breaks. -/
def setIcePossible (s : State) : State :=
  setFilter { s with frg := { s.frg with icePossible := true, iceIndex := 0 } } .ext
    { filterRecord s .ext with capture := none }

/-- The ice-possible flag is cleared (R65, R66, R95): F_EXT's index takes LX and is tested as at an update. -/
def clearIcePossible (s : State) : State :=
  let t := updateIndex s.params s.flm.lx (filterRecord s .ext)
  requestSaves t.2 (setFilter { s with frg := { s.frg with icePossible := false, iceIndex := 0 } } .ext t.1)

/-- A record after a filter change (R103). -/
def changedFilter (r : FilterRecord) : FilterRecord :=
  { FilterRecord.atPowerOn with previousFlow := r.previousFlow }

/-- A filter change (R103). -/
def filterChange (s : State) : State :=
  requestSave (markInactive .filterBlocked
    { s with
      flm := { s.flm with
        records := ⟨changedFilter s.flm.records.sup, changedFilter s.flm.records.ext⟩
        lx := 0 }
      frg := { s.frg with iceIndex := 0 } })

/-- A record goes to BLOCKED (R98, R99). -/
def enterBlocked (f : Fan) (s : State) : State :=
  requestSave (markActive .filterBlocked
    (setFilter s f { filterRecord s f with state := .blocked, blocked := none }))

/-- A record's operation, with the saves it requests. -/
def onRecord (f : Fan) (op : FilterRecord → FilterRecord × Nat) (s : State) : State :=
  requestSaves (op (filterRecord s f)).2 (setFilter s f (op (filterRecord s f)).1)

/-- The records at the completion of the start load (R91): placed, LX set, the hour and volume test made once, and
FILTER_BLOCKED marked if a record is BLOCKED. -/
def placeRecords (r : PerFan FilterRecord) (s : State) : State :=
  let a := testCounts s.params r.sup
  let b := testCounts s.params r.ext
  let s := { s with flm := { s.flm with records := ⟨a.1, b.1⟩, lx := r.ext.index } }
  let s := requestSaves (a.2 + b.2) s
  if eitherFilter s (· == .blocked) then markActive .filterBlocked s else s

/-- VOLUME_ROLLOVER (R92). -/
def execVolumeRollover (f : Fan) (s : State) : Host.Outcome State Fault Refusal :=
  whenInService (fun s => onRecord f (rollVolume s.params) s) s

/-- RUN_HOUR_ROLLOVER (R92). -/
def execRunHourRollover (f : Fan) (s : State) : Host.Outcome State Fault Refusal :=
  whenInService (fun s => onRecord f (rollHour s.params f) s) s

/-- DUE_HOURS_EXPIRY (R97). -/
def execDueHoursExpiry (f : Fan) (s : State) : Host.Outcome State Fault Refusal :=
  whenInService (onRecord f testOverdue) s

/-- BLOCKED_TIMER_EXPIRY (R98). -/
def execBlockedTimerExpiry (f : Fan) (s : State) : Host.Outcome State Fault Refusal :=
  whenInService (fun s => atLimit blockedTime (filterRecord s f).blocked (enterBlocked f) s) s

/-- A capture qualification that stands at 60 s is attempted (R101). -/
def captureAtLimit (f : Fan) (s : State) : State :=
  match (filterRecord s f).capture, channelValue s (pressureChannel f) with
  | some t, some dp =>
    if captureSeconds ≤ t ∧ !(filterRecord s f).referenced then
      onRecord f (attemptCapture dp.toNat (fan s f).commanded) s
    else s
  | _, _ => s

/-- CAPTURE_QUALIFICATION_EXPIRY (R101). -/
def execCaptureQualificationExpiry (f : Fan) (s : State) : Host.Outcome State Fault Refusal :=
  whenInService (captureAtLimit f) s

/-- The FILTER button's debounced state changes (R102): a press starts the hold timer, a release stops it. A press acts
from the completion of the start load on, and not while the button has been held down across it. -/
def filterDebounced (s : State) : State :=
  let b := s.flm.button
  { s with flm := { s.flm with
      button := { b.settle with heldAtStart := false }
      hold := if !b.high && inService s && !b.heldAtStart then some 0 else none } }

/-- FILTER_DEBOUNCE_EXPIRY (R102). -/
def execFilterDebounceExpiry (s : State) : Host.Outcome State Fault Refusal :=
  whenPowered (fun s => atLimit buttonDebounce s.flm.button.running filterDebounced s) s

/-- The hold timer stops and the filter change takes place (R102, R103). -/
def filterHeld (s : State) : State := filterChange { s with flm := { s.flm with hold := none } }

/-- FILTER_HOLD_EXPIRY (R102). -/
def execFilterHoldExpiry (s : State) : Host.Outcome State Fault Refusal :=
  whenInService (fun s => atLimit filterHoldTime s.flm.hold filterHeld s) s

end Sys2Proof.Machine
end

