-- ==== Sys2Proof/Machine/LineOps.lean ====
section
/-! DEFINITION. What other blocks ask of the line controller (chapter 7): staging a frame (R129), composing the STATE frame
(R132), and a line fault's record (R137, R138). -/

namespace Sys2Proof.Machine

def slotFrame (m : LineController) : Slot → Option Frame
  | .urgent => m.urgent
  | .reply => m.reply
  | .state => m.stateSlot

def setSlot (m : LineController) (slot : Slot) (f : Option Frame) : LineController :=
  match slot with
  | .urgent => { m with urgent := f }
  | .reply => { m with reply := f }
  | .state => { m with stateSlot := f }

/-- The first slot holding a frame, in the order URGENT, REPLY, STATE (R130). -/
def firstSlot (m : LineController) : Option Slot :=
  if m.urgent.isSome then some .urgent
  else if m.reply.isSome then some .reply
  else if m.stateSlot.isSome then some .state
  else none

/-- Staging a frame (R129): it replaces what the slot holds, and clears the in-shifter mark that names the slot. A frame is
staged in any line state other than OFF. -/
def stageIn (slot : Slot) (f : Frame) (m : LineController) : LineController :=
  if m.state = .off then m
  else { setSlot m slot (some f) with mark := if m.mark = some slot then none else m.mark }

def stage (slot : Slot) (f : Frame) (s : State) : State := { s with lnc := stageIn slot f s.lnc }

def stageIntent (urgency : Nat) (s : State) : State := stage .urgent ⟨.intent, [BitVec.ofNat 8 urgency]⟩ s

def stageEnd (s : State) : State := stage .urgent ⟨.endThaw, []⟩ s

/-- The content of a STATE frame composed now (R132). -/
def stateContent (s : State) : StateContent where
  announcement := announcement s
  urgency := if announcement s = .none then none else some (s.frg.urgency.getD 0)
  outdoorT := channelValue s .tOda
  outdoorRH := channelValue s .rhOda
  plume := s.odr.plume
  boosting := boostingFlag s
  exhaustRH := if boostingFlag s then channelValue s .rhEta else none

/-- A STATE frame is composed and staged, and the STATE period restarts (R132). -/
def composeState (s : State) : State :=
  stage .state ⟨.state, stateBytes (stateContent s)⟩ { s with lnc := { s.lnc with statePeriod := some 0 } }

/-- After a frame is recognised, discarded or abandoned: WAITING with the idle count at 0 (R122). A dominant run that is
going on counts on from there (R128). -/
def toWaiting (m : LineController) : LineController :=
  { m with
    phase := .waiting
    idleRun := 0
    dominantRun := min stuckLimit (dominantAtEnd m.read)
    frameTime := none
    read := []
    others := []
    failing := [] }

/-- A line fault fills an empty capture (R138). -/
def captureFault (c : LineCapture) (m : LineController) : LineController :=
  if m.capture.isSome then m else { m with capture := some c }

/-- A line fault (R137): to the capture and to the fault set as one error of LINE_ERRORS. -/
def lineFault (fault : LineFaultKind) (sender : Option Position) (kind : Option FrameKind) (s : State) : State :=
  markLineError { s with lnc := captureFault ⟨fault, sender, kind, runClock s⟩ s.lnc }

end Sys2Proof.Machine
end

