-- ==== Sys2Proof/Machine/Frost.lean ====
section
/-! DEFINITION. The frost guard (chapter 4) and its thaw coordination (chapter 9). -/

namespace Sys2Proof.Machine

/-! ### Power and HEAT -/

/-- Power 0 between evaluations: HEAT goes off at once (R70). -/
def stopHeat (m : FrostGuard) : FrostGuard := { m with power := 0, heatOn := false, heatLeft := none }

/-- A power set between evaluations: 0 switches HEAT off at once, any other takes effect at the next window (R70). -/
def setPower (power : Nat) (m : FrostGuard) : FrostGuard :=
  if power = 0 then stopHeat m else { m with power := power }

/-- A present value below `hi`. -/
def presentBelow (hi : Int) : Option Int → Bool
  | none => false
  | some v => decide (v < hi)

/-- A present value at or above `lo`. -/
def presentAtLeast (lo : Int) : Option Int → Bool
  | none => false
  | some v => decide (lo ≤ v)

/-- The FALLBACK row of R69. -/
def fallbackPower (s : State) : Nat := if s.frg.available && presentBelow (-50) s.odr.tOut then 50 else 0

/-- The THAW_B power (R69, R76, R79). -/
def thawBPower (s : State) : Nat := if s.frg.available then 100 else 0

/-- A heat window begins: HEAT on for power × 100 ms, for the whole window at power 100 (R70, log 14). -/
def heatWindow (m : FrostGuard) : FrostGuard :=
  { m with
    heatOn := decide (0 < m.power)
    heatLeft := if 0 < m.power ∧ m.power < 100 then some (millis (100 * m.power)) else none }

/-! ### Ice-possible flag -/

/-- The ice-possible cause (R65). -/
def iceCause (s : State) : Bool :=
  match s.frg.state with
  | .clear => false
  | .watch => presentBelow (s.params.onset + 30) (channelValue s .tEha)
  | .preheat => true
  | .reduce => true
  | .intent => true
  | .thawU => true
  | .thawB => true
  | .recover => true
  | .fallback => true

/-- The cause holds at an assessment: the flag is set and the hold timer stopped (R65). -/
def iceCauseHolds (s : State) : State :=
  let s := if s.frg.icePossible then s else setIcePossible s
  { s with frg := { s.frg with iceHold := none } }

/-- The cause does not hold at an assessment: the hold timer of a set flag starts, or runs on (R65). -/
def iceCauseCeased (s : State) : State :=
  if s.frg.icePossible then { s with frg := { s.frg with iceHold := some (s.frg.iceHold.getD 0) } } else s

/-- The assessment of the ice-possible cause (R65). -/
def assessIce (s : State) : State := if iceCause s then iceCauseHolds s else iceCauseCeased s

/-- A change of the frost state: the full-power timer belongs to PREHEAT (R73), and the cause is assessed (R65). -/
def moveTo (st : FrostState) (s : State) : State :=
  assessIce { s with frg := { s.frg with state := st, fullPower := none } }

/-! ### Availability -/

/-- The preheater is not available (R68): power 0, HEAT off, and PREHEAT moves to REDUCE (R73). -/
def withdrawPreheater (s : State) : State :=
  let s := { s with frg := stopHeat { s.frg with available := false } }
  if s.frg.state = .preheat then moveTo .reduce s else s

/-- Availability worked out afresh at an event that can change one of its terms (R68), once in service (R87). -/
def refreshAvailability (s : State) : State :=
  if inService s then
    if preheaterTerms s then { s with frg := { s.frg with available := true } } else withdrawPreheater s
  else s

/-- What follows a change of a fan's flow or state outside the filter evaluation (R39): a capture qualification breaks
where the fan has left SETTLED, and availability is worked out afresh. -/
def fansChanged (s : State) : State := refreshAvailability (breakCaptures s)

/-- The fan drive's guard after the frost state has left THAW_U (R26). -/
def leftThawU (s : State) : State := fansChanged (guardFlows false s)

/-! ### Thaws -/

/-- The entry to a thaw from INTENT (R76). -/
def enterThaw (st : FrostState) (power : Nat) (s : State) : State :=
  composeState (moveTo st { s with frg := setPower power { s.frg with holdoff := none, thaw := some 0 } })

/-- A denial (R159). -/
def deny (reason : Denial) (s : State) : State :=
  enterThaw .thawB (thawBPower s) { s with frg := { s.frg with denial := some reason } }

/-- Station A has precedence over station B (R155). -/
def precedes (urgencyA : Nat) (a : Position) (urgencyB : Nat) (b : Position) : Bool :=
  decide (urgencyB < urgencyA) || (urgencyA == urgencyB && decide (a.toNat < b.toNat))

/-- A peer entry has precedence over this station (R155). -/
def entryPrecedes (s : State) (e : PeerEntry) : Bool :=
  match e.urgency, s.frg.urgency, s.params.position with
  | some theirs, some own, some position => precedes theirs e.position own position
  | _, _, _ => false

/-- Some ADJ entry of the peer table satisfies the test (R156). -/
def anyAdj (s : State) (test : PeerEntry → Bool) : Bool :=
  s.ptb.entries.any fun e => inSet s.params.adj e.position && test e

/-- The intent check of R156: the denial reason of the first condition that holds. -/
def intentCheck (s : State) : Option Denial :=
  if combustionFlag s then some .combustion
  else if s.lnc.state ≠ .active then some .line
  else if anyAdj s (fun e => e.announcement == .thawU) then some .peerThaw
  else if anyAdj s (fun e => e.announcement == .intent && entryPrecedes s e) then some .peerPrecedence
  else none

/-- The intent check with its consequence before the holdoff has ended (R157 to R159). -/
def checkIntent (s : State) : State :=
  match intentCheck s with
  | none => s
  | some reason => deny reason s

/-- The intent check at an event of R158, while the holdoff runs. -/
def recheckIntent (s : State) : State := if s.frg.state = .intent then checkIntent s else s

/-- The urgency fixed at INTENT entry (R75, R155). -/
def frozenUrgency (m : FrostGuard) : Nat := min 255 (m.load / 16 + m.iceIndex)

/-- The entry to INTENT, and the check made at once (R75, R157). -/
def enterIntent (s : State) : State :=
  checkIntent (stageIntent (frozenUrgency s.frg)
    (moveTo .intent { s with frg := { s.frg with urgency := some (frozenUrgency s.frg), holdoff := some 0 } }))

/-- The end of the holdoff (R160). -/
def endHoldoff (s : State) : State :=
  if s.frg.state = .intent then
    match intentCheck s with
    | none => enterThaw .thawU 0 s
    | some reason => deny reason s
  else s

/-- An unbalanced thaw becomes balanced (R79). -/
def convertThaw (s : State) : State :=
  if s.frg.state = .thawU then
    leftThawU (composeState (moveTo .thawB { s with frg := setPower (thawBPower s) s.frg }))
  else s

/-- The entry to FALLBACK (R81), at a thaw end too (R78, log 27). -/
def enterFallback (s : State) : State :=
  let m := { s.frg with
    holdoff := none
    recover := none
    fallbackCycle := some 0
    timedThaw := none
    urgency := none }
  let t := moveTo .fallback { s with frg := setPower (fallbackPower s) m }
  if s.frg.state = .intent then stageEnd t else t

/-- The entry to RECOVER (R78, R80). -/
def enterRecover (s : State) : State :=
  moveTo .recover { s with frg := stopHeat { s.frg with recover := some 0 } }

/-- A thaw end (R78). -/
def thawEnd (s : State) : State :=
  let t := stageEnd { s with frg := { s.frg with thaw := none, load := 0, urgency := none } }
  let t := if (channelValue s .tEha).isSome then enterRecover t else enterFallback t
  if s.frg.state = .thawU then leftThawU t else t

/-- The frost state is THAW_U or THAW_B. -/
def thawing (s : State) : Bool := s.frg.state == .thawU || s.frg.state == .thawB

/-- The early end of R77. -/
def earlyEnd (s : State) : Bool :=
  decide (minutes s.params.tThawMin ≤ s.frg.thaw.getD 0)
    && presentAtLeast s.params.tThawEnd (channelValue s .tEha)
    && decide (s.frg.iceIndex ≤ s.params.iClear)
    && decide (0 < (fan s .ext).commanded)

/-! ### FALLBACK -/

/-- The interval between timed thaws (R82). -/
def thawInterval (tOut : Option Int) : Option Nat :=
  if presentBelow (-100) tOut then some coldInterval
  else if presentBelow (-30) tOut then some frostInterval
  else none

/-- The interval applies and the cycle timer has reached it (R82). -/
def timedThawDue (s : State) : Bool :=
  match thawInterval s.odr.tOut, s.frg.fallbackCycle with
  | some interval, some t => decide (interval ≤ t)
  | _, _ => false

/-- A timed thaw begins (R82). -/
def startTimedThaw (s : State) : State :=
  composeState { s with frg := { s.frg with fallbackCycle := some 0, timedThaw := some 0, urgency := some 0 } }

/-- A timed thaw ends at its timer (R82). -/
def endTimedThaw (s : State) : State :=
  stageEnd { s with frg := { s.frg with timedThaw := none, load := 0, urgency := none } }

/-- FALLBACK is left for WATCH (R83). -/
def leaveFallback (s : State) : State :=
  let m := stopHeat { s.frg with load := 0, fallbackCycle := none, timedThaw := none, urgency := none }
  let t := moveTo .watch { s with frg := m }
  if s.frg.timedThaw.isSome then stageEnd t else t

/-- T_EHA's record changes to FAULT (R81). Before the first evaluation no transition is made (R87, log 26). -/
def exhaustLost (s : State) : State :=
  if s.frg.evaluated && !thawing s && s.frg.state != .fallback then enterFallback s else s

/-- T_EHA's record changes to VALID (R83). -/
def exhaustBack (s : State) : State := if s.frg.state = .fallback then leaveFallback s else s

/-! ### The frost evaluation -/

/-- The extract dewpoint (R62), and the humidity evaluator's (R110): absent if either value is. -/
def dewpointOf (t rh : Option Int) : Option Int :=
  match t, rh with
  | some t, some rh => some (dewpoint t rh)
  | _, _ => none

/-- The moisture weight w (R63). -/
def moistureWeight (td : Option Int) (tEha : Int) : Int :=
  match td with
  | none => 1
  | some td => limitInt 1 32 ((td - tEha).tdiv 20)

/-- The frost load after an evaluation (R64). -/
def nextLoad (p : Params) (extractFlow : Nat) (tEha td : Option Int) (load : Nat) : Nat :=
  if extractFlow = 0 then load
  else
    match tEha with
    | none => load
    | some t =>
      if t < p.onset then min 65535 (load + ((p.onset - t) * moistureWeight td t).toNat / 8) else load - p.decay

/-- First part of the evaluation (R62 to R64). -/
def updateLoad (s : State) : State :=
  let td := dewpointOf (channelValue s .tEta) (channelValue s .rhEta)
  { s with frg := { s.frg with
      tdEta := td
      load := nextLoad s.params (fan s .ext).commanded (channelValue s .tEha) td s.frg.load } }

/-- The first row of R69. -/
def workedPower (onset : Int) (tEha : Option Int) (power : Nat) : Nat :=
  match tEha with
  | none => limitNat 0 100 power
  | some t => limitNat 0 100 (if t < onset then power + 10 else if onset + 20 < t then power - 5 else power)

/-- The power of an available preheater by the frost state (R69). -/
def statePower (s : State) : Nat :=
  match s.frg.state with
  | .preheat => workedPower s.params.onset (channelValue s .tEha) s.frg.power
  | .reduce => workedPower s.params.onset (channelValue s .tEha) s.frg.power
  | .intent => workedPower s.params.onset (channelValue s .tEha) s.frg.power
  | .thawB => 100
  | .fallback => fallbackPower s
  | .clear => 0
  | .watch => 0
  | .thawU => 0
  | .recover => 0

/-- Second part of the evaluation (R69). -/
def updatePower (s : State) : State :=
  { s with frg := { s.frg with power := if s.frg.available then statePower s else 0 } }

/-- A move that sets the power to 0. -/
def moveCold (st : FrostState) (s : State) : State := moveTo st { s with frg := stopHeat s.frg }

/-- The test of CLEAR (R71). -/
def testClear (s : State) : State :=
  if presentBelow s.params.tWatchOut s.odr.tOut || presentBelow (s.params.onset + 20) (channelValue s .tEha) then
    moveCold .watch s
  else s

/-- The test of WATCH (R72). -/
def testWatch (s : State) : State :=
  if s.params.l1 ≤ s.frg.load then moveCold (if s.frg.available then .preheat else .reduce) s
  else if s.frg.load = 0 ∧ presentAtLeast (s.params.tWatchOut + 10) s.odr.tOut = true
      ∧ presentAtLeast (s.params.onset + 20) (channelValue s .tEha) = true then moveCold .clear s
  else s

/-- The full-power timer after the power update (R73), in seconds. -/
def countFullPower (p : Params) (m : FrostGuard) : Option Nat :=
  if m.power = 100 ∧ p.l1 ≤ m.load then
    match m.fullPower with
    | none => some 0
    | some t => some (min fullPowerSeconds (t + 10))
  else none

/-- The full-power timer has reached 600 s. -/
def fullPowerReached (m : FrostGuard) : Bool := decide (fullPowerSeconds ≤ m.fullPower.getD 0)

/-- PREHEAT moves to REDUCE keeping its power when the full-power timer has reached 600 s (R73). -/
def endPreheat (s : State) : State :=
  if s.frg.state = .preheat ∧ fullPowerReached s.frg = true then moveTo .reduce s else s

/-- The test of PREHEAT (R73). -/
def testPreheat (s : State) : State :=
  let t := { s with frg := { s.frg with fullPower := countFullPower s.params s.frg } }
  if s.frg.load = 0 ∧ s.frg.power = 0 then moveCold .watch t else endPreheat t

/-- The test of REDUCE (R74). -/
def testReduce (s : State) : State :=
  if s.params.l3 ≤ s.frg.load ∨ s.params.iThaw ≤ s.frg.iceIndex then enterIntent s
  else if s.frg.load < s.params.l1 / 2 then
    if s.frg.available then moveTo .preheat s else moveCold .watch s
  else s

/-- The test of a thaw (R77). -/
def testThaw (s : State) : State := if earlyEnd s then thawEnd s else s

/-- The test of FALLBACK (R82, R83). -/
def testFallback (s : State) : State :=
  if (channel s .tEha).state ≠ .fault then leaveFallback s
  else if s.frg.timedThaw.isNone && timedThawDue s then startTimedThaw s
  else s

/-- A state's test, made only when T_EHA is not in FAULT (R81). -/
def unlessExhaustFault (test : State → State) (s : State) : State :=
  if (channel s .tEha).state = .fault then enterFallback s else test s

/-- Third part of the evaluation: at most one transition (R71 to R83). -/
def testState (s : State) : State :=
  match s.frg.state with
  | .clear => unlessExhaustFault testClear s
  | .watch => unlessExhaustFault testWatch s
  | .preheat => unlessExhaustFault testPreheat s
  | .reduce => unlessExhaustFault testReduce s
  | .intent => unlessExhaustFault id s
  | .thawU => testThaw s
  | .thawB => testThaw s
  | .recover => unlessExhaustFault id s
  | .fallback => testFallback s

/-- The frost evaluation (R61), with the heat window it begins (R70). -/
def frostEvaluate (s : State) : State :=
  let s := assessIce (testState (updatePower (updateLoad s)))
  { s with frg := heatWindow { s.frg with timer := some 0, evaluated := true } }

/-! ### What other blocks hand to the frost guard -/

/-- A COMBUSTION entry has appeared (R79, R158). -/
def combustionAppeared (s : State) : State := convertThaw (recheckIntent s)

/-- The line controller has found a duplicate position (R79, R136, R158). -/
def duplicateFound (s : State) : State := convertThaw (recheckIntent s)

/-- An ADJ entry as it stands after its creation or update (R158, R161). -/
def adjUpdated (e : PeerEntry) (s : State) : State :=
  if s.frg.state = .thawU then
    if e.announcement == .thawU && entryPrecedes s e then convertThaw s else s
  else recheckIntent s

/-! ### The commands -/

/-- FROST_EVALUATION (R61). -/
def execFrostEvaluation (s : State) : Host.Outcome State Fault Refusal :=
  whenInService (fun s => atLimit frostPeriod s.frg.timer frostEvaluate s) s

/-- FULL_POWER_TIMER_EXPIRY (R73, log 4). -/
def execFullPowerTimerExpiry (s : State) : Host.Outcome State Fault Refusal := whenInService endPreheat s

/-- HOLDOFF_EXPIRY (R160). -/
def execHoldoffExpiry (s : State) : Host.Outcome State Fault Refusal :=
  whenInService (fun s => atLimit holdoffTime s.frg.holdoff endHoldoff s) s

/-- The thaw timer reaches t_thaw_max (R77, R78). -/
def thawTimedOut (s : State) : State := if thawing s then thawEnd s else s

/-- THAW_TIMER_EXPIRY (R78). -/
def execThawTimerExpiry (s : State) : Host.Outcome State Fault Refusal :=
  whenInService (fun s => atLimit (minutes s.params.tThawMax) s.frg.thaw thawTimedOut s) s

/-- RECOVER ends (R80). -/
def endRecover (s : State) : State :=
  if s.frg.state = .recover then moveTo .watch { s with frg := { s.frg with recover := none } } else s

/-- RECOVER_TIMER_EXPIRY (R80). -/
def execRecoverTimerExpiry (s : State) : Host.Outcome State Fault Refusal :=
  whenInService (fun s => atLimit recoverTime s.frg.recover endRecover s) s

/-- TIMED_THAW_EXPIRY (R82). -/
def execTimedThawExpiry (s : State) : Host.Outcome State Fault Refusal :=
  whenInService (fun s => atLimit timedThawTime s.frg.timedThaw endTimedThaw s) s

/-- The ice-possible hold ends (R65, R66, R95). -/
def endIceHold (s : State) : State := clearIcePossible { s with frg := { s.frg with iceHold := none } }

/-- ICE_POSSIBLE_HOLD_EXPIRY (R65). -/
def execIcePossibleHoldExpiry (s : State) : Host.Outcome State Fault Refusal :=
  whenInService (fun s => atLimit iceHoldTime s.frg.iceHold endIceHold s) s

/-- HEAT off for the rest of the window (R70). -/
def endHeatOn (s : State) : State := { s with frg := { s.frg with heatOn := false, heatLeft := none } }

/-- HEAT_ON_TIME_EXPIRY (R70). -/
def execHeatOnTimeExpiry (s : State) : Host.Outcome State Fault Refusal :=
  whenInService (fun s => atEnd s.frg.heatLeft endHeatOn s) s

/-- The CUTOUT debounced state is taken as it stands (R67). -/
def takeCutout (s : State) : State :=
  refreshAvailability (if s.frg.cutout.low then markInactive .preheatCutout s else markActive .preheatCutout s)

/-- The CUTOUT debounced state changes; the change is taken from the completion of the start load on (R67). -/
def cutoutDebounced (s : State) : State :=
  let t := { s with frg := { s.frg with cutout := s.frg.cutout.settle } }
  if inService s then takeCutout t else t

/-- CUTOUT_DEBOUNCE_EXPIRY (R67). -/
def execCutoutDebounceExpiry (s : State) : Host.Outcome State Fault Refusal :=
  whenPowered (fun s => atLimit contactDebounce s.frg.cutout.running cutoutDebounced s) s

end Sys2Proof.Machine
end

