-- ==== Sys2Proof/Machine/FanDrive.lean ====
section
/-! DEFINITION. The fan-loop evaluation and the fan drive's commands (chapter 2). -/

namespace Sys2Proof.Machine

/-- A fan has entered FAULT between the two states. -/
def enteredFault (f : Fan) (before after : State) : Bool :=
  (fan before f).state != .fault && (fan after f).state == .fault

/-- The stall updates of both fans, and the guard where either enters FAULT (R34, R26, log 13). -/
def stallFans (s : State) : State :=
  let t := stallFan .ext (stallFan .sup s)
  if enteredFault .sup s t || enteredFault .ext s t then guardFlows false t else t

/-- Fourth part of the evaluation: settling and stalls of both fans (R33, R34). Where a RUNNING fan's settle timer and its
stall timer reach their ends at one evaluation, it settles first and then enters FAULT (DESIGN CHOICE, log 34). -/
def updateFanStates (s : State) : State := stallFans (settleFan .ext (settleFan .sup s))

/-- The fan drive's own evaluation in its four parts (R17). -/
def evaluateFans (s : State) : State := updateFanStates (driveFans s)

/-- The fan-loop evaluation, its results handed on (R38, R39), and the filter evaluation on them (R89). -/
def fanEvaluate (s : State) : State :=
  let s := evaluateFilters (fansChanged (evaluateFans s))
  { s with fdr := { s.fdr with timer := some 0 } }

/-- FAN_EVALUATION (R17). -/
def execFanEvaluation (s : State) : Host.Outcome State Fault Refusal :=
  whenInService (fun s => atLimit fanPeriod s.fdr.timer fanEvaluate s) s

/-- The settle timer of a RUNNING fan stands at 20 s (R33, log 4). -/
def settleAtLimit (f : Fan) (s : State) : State :=
  if (fan s f).state = .running ∧ settleSeconds ≤ (fan s f).settle then
    fansChanged (markInactive (.fan f) (setFan s f (toSettled (fan s f))))
  else s

/-- SETTLE_TIMER_EXPIRY (R33). -/
def execSettleTimerExpiry (f : Fan) (s : State) : Host.Outcome State Fault Refusal :=
  whenInService (settleAtLimit f) s

/-- The stall timer of a turning fan stands at the stall time (R34, log 4). -/
def stallAtLimit (f : Fan) (s : State) : State :=
  if (fan s f).turning = true ∧ stallTime s.params ≤ (fan s f).stall then
    fansChanged (guardFlows false (markActive (.fan f) (setFan s f (toFault (fan s f)))))
  else s

/-- STALL_TIMER_EXPIRY (R34). -/
def execStallTimerExpiry (f : Fan) (s : State) : Host.Outcome State Fault Refusal :=
  whenInService (stallAtLimit f) s

/-- The end of a retry pause (R35). -/
def endRetryPause (f : Fan) (s : State) : State :=
  if (fan s f).state = .fault then
    fansChanged (setFan s f (retryFan (min 3 ((fan s f).retryCount + 1)) (fan s f)))
  else s

/-- RETRY_PAUSE_EXPIRY (R35). -/
def execRetryPauseExpiry (f : Fan) (s : State) : Host.Outcome State Fault Refusal :=
  whenInService (fun s => atEnd (fan s f).retryPause (endRetryPause f) s) s

/-- CLEAR FAN_RETRY on both fans (R36). -/
def clearRetries (s : State) : State :=
  fansChanged (setFan (setFan s .sup (clearRetry (fan s .sup))) .ext (clearRetry (fan s .ext)))

end Sys2Proof.Machine
end

