-- ==== Sys2Proof/Machine/Modes.lean ====
section
/-! DEFINITION. The mode stack (chapter 3): entries, the house inputs, the humidity entries, the climate set. -/

namespace Sys2Proof.Machine

/-! ### Entries -/

/-- An origin's priority (R42). -/
def priority : Origin → Nat
  | .base => 0
  | .away => 1
  | .humDry => 1
  | .humBoost => 1
  | .button => 2
  | .combustion => 3

/-- A new entry's place: above every entry of lower or equal priority, below every entry of higher priority (R43). -/
def place (e : ModeEntry) : List ModeEntry → List ModeEntry
  | [] => [e]
  | x :: rest => if priority e.origin < priority x.origin then x :: place e rest else e :: x :: rest

/-- An origin's level (R42). -/
def originLevel (p : Params) : Origin → Fin 5
  | .base => p.baseLevel
  | .away => 1
  | .humDry => p.dryLevel
  | .humBoost => 4
  | .button => 4
  | .combustion => p.combLevel

/-- The remaining time an entry is inserted with, in seconds (R42). -/
def originTime (p : Params) : Origin → Option Nat
  | .base => none
  | .away => none
  | .humDry => none
  | .humBoost => none
  | .button => some (60 * p.boostTime)
  | .combustion => none

/-- An entry is inserted and takes the next sequence number; an origin that has an entry gets no second one (R42, R43). -/
def insertEntry (p : Params) (o : Origin) (m : ModeStack) : ModeStack :=
  if hasEntry m o then m
  else
    { m with
      above := place ⟨o, originLevel p o, originTime p o, m.counter⟩ m.above
      counter := m.counter + 1 }

/-- An entry is withdrawn, and the entries above it close down over the gap (R43). -/
def withdraw (o : Origin) (m : ModeStack) : ModeStack := { m with above := m.above.filter (fun e => e.origin != o) }

/-- An entry's remaining time is updated in place (R42). -/
def setRemaining (o : Origin) (t : Option Nat) (m : ModeStack) : ModeStack :=
  { m with above := m.above.map fun e => if e.origin = o then { e with remaining := t } else e }

def setStack (m : ModeStack) (s : State) : State := { s with mst := m }

/-! ### Remaining time -/

/-- A HUM_BOOST entry is withdrawn at the end of its run-on, and HUM_DRY takes its place where the dry request copy is
asserted (R53). -/
def endRunOn (p : Params) (m : ModeStack) : ModeStack :=
  if m.dryCopy then insertEntry p .humDry (withdraw .humBoost m) else withdraw .humBoost m

/-- The top entry is withdrawn where its remaining time stands at 0 (R45). -/
def expireTop (p : Params) (m : ModeStack) : ModeStack :=
  if (topEntry m).remaining = some 0 then
    if (topEntry m).origin = .humBoost then endRunOn p m else withdraw (topEntry m).origin m
  else m

/-- The top entry's remaining time goes down by 1, if it has one (R45). -/
def countTop (m : ModeStack) : ModeStack :=
  match m.above with
  | [] => m
  | e :: rest => { m with above := { e with remaining := e.remaining.map (· - 1) } :: rest }

/-- The countdown tick: the count, and the withdrawal where it reaches 0 (R45). -/
def tick (s : State) : State := setStack { expireTop s.params (countTop s.mst) with countdown := some 0 } s

/-- COUNTDOWN_TICK (R45). -/
def execCountdownTick (s : State) : Host.Outcome State Fault Refusal :=
  whenInService (fun s => atLimit countdownPeriod s.mst.countdown tick s) s

/-- REMAINING_TIME_EXPIRY (R45, log 4). -/
def execRemainingTimeExpiry (s : State) : Host.Outcome State Fault Refusal :=
  whenInService (fun s => setStack (expireTop s.params s.mst) s) s

/-! ### The house inputs -/

/-- A BOOST press (R48). -/
def press (p : Params) (m : ModeStack) : ModeStack :=
  if (topEntry m).origin = .button then withdraw .button m
  else if hasEntry m .button then setRemaining .button (some (60 * p.boostTime)) m
  else insertEntry p .button m

/-- The BOOST debounced state changes; a press is taken from the completion of the start load on, and not while the
button has been held down across it (R46). -/
def boostDebounced (s : State) : State :=
  let m := { s.mst with boost := { s.mst.boost.settle with heldAtStart := false } }
  if !s.mst.boost.high && inService s && !s.mst.boost.heldAtStart then setStack (press s.params m) s else setStack m s

/-- BOOST_DEBOUNCE_EXPIRY (R46, R48). -/
def execBoostDebounceExpiry (s : State) : Host.Outcome State Fault Refusal :=
  whenPowered (fun s => atLimit buttonDebounce s.mst.boost.running boostDebounced s) s

/-- The AWAY debounced state is taken as it stands (R49). -/
def takeAway (s : State) : State :=
  setStack (if s.mst.away.low then insertEntry s.params .away s.mst else withdraw .away s.mst) s

/-- The AWAY debounced state changes (R47, R49). -/
def awayDebounced (s : State) : State :=
  let t := setStack { s.mst with away := s.mst.away.settle } s
  if inService s then takeAway t else t

/-- AWAY_DEBOUNCE_EXPIRY (R49). -/
def execAwayDebounceExpiry (s : State) : Host.Outcome State Fault Refusal :=
  whenPowered (fun s => atLimit contactDebounce s.mst.away.running awayDebounced s) s

/-- A COMBUSTION entry appears: the fan drive's guard, then the frost guard (R50, R26). -/
def insertCombustion (s : State) : State :=
  if combustionFlag s then s
  else combustionAppeared (fansChanged (guardFlows true (setStack (insertEntry s.params .combustion s.mst) s)))

/-- The COMBUSTION debounced state is taken as it stands (R50). -/
def takeCombustion (s : State) : State :=
  if combustionActive s then insertCombustion s else setStack (withdraw .combustion s.mst) s

/-- The COMBUSTION debounced state changes (R47, R50). -/
def combustionDebounced (s : State) : State :=
  let t := setStack { s.mst with combustion := s.mst.combustion.settle } s
  if inService s then takeCombustion t else t

/-- COMBUSTION_DEBOUNCE_EXPIRY (R50). -/
def execCombustionDebounceExpiry (s : State) : Host.Outcome State Fault Refusal :=
  whenPowered (fun s => atLimit contactDebounce s.mst.combustion.running combustionDebounced s) s

/-- An input's pin takes a level, and its candidate timer follows (R46, R47, R67, R102). -/
def setPin (pin : InputPin) (high : Bool) (s : State) : State :=
  match pin with
  | .boost => { s with mst := { s.mst with boost := s.mst.boost.setLevel high } }
  | .filter => { s with flm := { s.flm with button := s.flm.button.setLevel high } }
  | .away => { s with mst := { s.mst with away := s.mst.away.setLevel high } }
  | .combustion => { s with mst := { s.mst with combustion := s.mst.combustion.setLevel high } }
  | .cutout => { s with frg := { s.frg with cutout := s.frg.cutout.setLevel high } }

/-- INPUT_LEVEL_CHANGE (R46). The level stands on the pin whether or not the part has supply. -/
def execInputLevelChange (pin : InputPin) (high : Bool) (s : State) : Host.Outcome State Fault Refusal :=
  .next (setPin pin high s)

/-! ### The humidity entries -/

/-- The boost request changes to asserted (R51). -/
def boostAsserted (p : Params) (m : ModeStack) : ModeStack :=
  let m := { m with boostCopy := true }
  if hasEntry m .humBoost then setRemaining .humBoost none m
  else insertEntry p .humBoost (withdraw .humDry m)

/-- The boost request changes to deasserted (R52). -/
def boostDeasserted (p : Params) (m : ModeStack) : ModeStack :=
  setRemaining .humBoost (some (60 * p.runOn)) { m with boostCopy := false }

/-- The dry request changes to asserted (R53). -/
def dryAsserted (p : Params) (m : ModeStack) : ModeStack :=
  let m := { m with dryCopy := true }
  if m.boostCopy || hasEntry m .humBoost then m else insertEntry p .humDry m

/-- The dry request changes to deasserted (R53). -/
def dryDeasserted (m : ModeStack) : ModeStack := withdraw .humDry { m with dryCopy := false }

/-- The boost request as handed over, where it has changed from what it was (R51, R52, R116). -/
def takeBoost (p : Params) (before now : Bool) (m : ModeStack) : ModeStack :=
  if now = before then m else if now then boostAsserted p m else boostDeasserted p m

/-- The dry request as handed over, where it has changed from what it was (R53, R116). -/
def takeDry (p : Params) (before now : Bool) (m : ModeStack) : ModeStack :=
  if now = before then m else if now then dryAsserted p m else dryDeasserted m

/-! ### The climate set -/

/-- One step of the climate set (R57). -/
def climateStep (c : ClimateSet) (tOut : Int) : ClimateSet :=
  match c with
  | .normal => if tOut < -100 then .cold else if 130 ≤ tOut then .mild else .normal
  | .cold => if -90 ≤ tOut then .normal else .cold
  | .mild => if tOut < 120 then .normal else .mild

/-- A climate-set evaluation, with its timer restarted (R56, R57). -/
def evaluateClimate (s : State) : State :=
  setStack
    { s.mst with
      climate := match s.odr.tOut with
        | none => s.mst.climate
        | some t => climateStep s.mst.climate t
      climateTimer := some 0 } s

/-- CLIMATE_TIMER_EXPIRY (R57). -/
def execClimateTimerExpiry (s : State) : Host.Outcome State Fault Refusal :=
  whenInService (fun s => atLimit climatePeriod s.mst.climateTimer evaluateClimate s) s

end Sys2Proof.Machine
end

