-- ==== Sys2Proof/Machine/HumidityRules.lean ====
section
/-! DEFINITION. The humidity evaluator (chapter 6). -/

namespace Sys2Proof.Machine

/-- The ring after the write of the newest sample (R108). -/
def writeRing (sample : Option Int) (m : Humidity) : Humidity :=
  { m with ring := m.ring.set m.writeIndex sample, writeIndex := m.writeIndex + 1 }

/-- The newest sample: the slot before the write index (R108). -/
def newestSample (m : Humidity) : Option Int := m.ring[m.writeIndex - 1]

/-- The oldest sample: the slot at the write index (R108). -/
def oldestSample (m : Humidity) : Option Int := m.ring[m.writeIndex]

/-- RISE: newest minus oldest, absent if either is (R109). -/
def riseOf (newest oldest : Option Int) : Option Int :=
  match newest, oldest with
  | some a, some b => some (a - b)
  | _, _ => none

/-- First part: the ring and RISE (R108, R109). -/
def takeHumidity (sample : Option Int) (m : Humidity) : Humidity :=
  let m := writeRing sample m
  { m with rise := riseOf (newestSample m) (oldestSample m) }

/-- An operand's value at the evaluation (R111). -/
def operandValue (m : Humidity) (tOut : Option Int) : Operand → Option Int
  | .rhEta => newestSample m
  | .rise => m.rise
  | .tdEta => m.tdEta
  | .tdOut => m.tdOut
  | .tOut => tOut
  | .zero => some 0

/-- The outcome of a comparison is in the rule's mask (R114). -/
def outcomeInMask (r : Rule) (a b : Int) : Bool := if a < b then r.less else if a = b then r.equal else r.greater

/-- The rule is true (R114): both operands are present and the outcome is in the mask. -/
def ruleTrue (r : Rule) (left right : Option Int) : Bool :=
  match left, right with
  | some a, some b => outcomeInMask r a (b + r.offset)
  | _, _ => false

/-- The rule's counter after the test (R114). -/
def countRule (r : Rule) (holds : Bool) (counter : Nat) : Nat := if holds then min r.n (counter + 1) else 0

/-- A rule at this evaluation is true (R114). -/
def ruleHolds (p : Params) (tOut : Option Int) (m : Humidity) (i : Fin 4) : Bool :=
  ruleTrue p.rules[i] (operandValue m tOut p.rules[i].left) (operandValue m tOut p.rules[i].right)

/-- Third part: the four rules (R114). -/
def testRules (p : Params) (tOut : Option Int) (m : Humidity) : Humidity :=
  { m with counters := Vector.ofFn fun i => countRule p.rules[i] (ruleHolds p tOut m i) m.counters[i] }

/-- A rule is asserted while its counter equals N (R114). -/
def ruleAsserted (p : Params) (m : Humidity) (i : Fin 4) : Bool := m.counters[i] == p.rules[i].n

/-- Fourth part: the two requests (R115). -/
def formRequests (p : Params) (m : Humidity) : Humidity :=
  { m with
    boost := (ruleAsserted p m 0 || ruleAsserted p m 1) && !ruleAsserted p m 3
    dry := ruleAsserted p m 2 }

/-- The humidity evaluation up to its requests, with its timer restarted (R107). -/
def humidityAfter (s : State) : Humidity :=
  let m := takeHumidity (channelValue s .rhEta) s.hev
  let m := { m with
    tdEta := dewpointOf (channelValue s .tEta) (channelValue s .rhEta)
    tdOut := dewpointOf s.odr.tOut s.odr.rhOut
    timer := some 0 }
  formRequests s.params (testRules s.params s.odr.tOut m)

/-- The humidity evaluation: each changed request is handed to the mode stack, the boost request first (R107, R116). -/
def humidityEvaluate (s : State) : State :=
  let m := humidityAfter s
  { s with
    hev := m
    mst := takeDry s.params s.hev.dry m.dry (takeBoost s.params s.hev.boost m.boost s.mst) }

/-- HUMIDITY_EVALUATION (R107). -/
def execHumidityEvaluation (s : State) : Host.Outcome State Fault Refusal :=
  whenInService (fun s => atLimit humidityPeriod s.hev.timer humidityEvaluate s) s

end Sys2Proof.Machine
end

