-- ==== Sys2Proof/Machine/Outdoor.lean ====
section
/-! DEFINITION. The peer table and the outdoor resolver (chapter 8). -/

namespace Sys2Proof.Machine

/-! ### The outdoor resolver -/

/-- A plume holds (R147). -/
def plumeHolds (s : State) : Bool :=
  s.ptb.entries.any fun e => inSet s.params.plume e.position && e.boosting && presentAtLeast s.params.plumeRH e.exhaustRH

/-- The plume evaluation (R147): a plume that holds sets the flag and starts the hold timer afresh. -/
def evaluatePlume (s : State) : State :=
  if plumeHolds s then { s with odr := { s.odr with plume := true, plumeHold := some 0 } } else s

/-- The values a terrace reference is taken from (R149). -/
def referenceValues (s : State) (field : PeerEntry → Option Int) : List Int :=
  s.ptb.entries.filterMap fun e => if inSet s.params.ref e.position && !e.plume then field e else none

def insertSorted (v : Int) : List Int → List Int
  | [] => [v]
  | x :: rest => if v ≤ x then v :: x :: rest else x :: insertSorted v rest

/-- Values in ascending order, duplicates kept. -/
def sortValues : List Int → List Int
  | [] => []
  | x :: rest => insertSorted x (sortValues rest)

/-- The lower median: the value at place (count − 1) / 2, absent for no values (R149). -/
def lowerMedian (values : List Int) : Option Int := (sortValues values)[(values.length - 1) / 2]?

/-- Both terrace references (R149, R150). -/
def updateReferences (s : State) : State :=
  { s with odr := { s.odr with
      tRef := lowerMedian (referenceValues s PeerEntry.outdoorT)
      rhRef := lowerMedian (referenceValues s PeerEntry.outdoorRH) } }

/-- A value chosen from the own channel, the terrace reference and the last resort, with its tag (R151). -/
def chooseOutdoor (plume : Bool) (own reference last : Option Int) (lastTag : OutdoorTag) : Option Int × OutdoorTag :=
  if !plume && own.isSome then (own, .own)
  else if reference.isSome then (reference, .terrace)
  else (last, lastTag)

/-- Both effective values (R151). -/
def updateEffective (s : State) : State :=
  let t := chooseOutdoor s.odr.plume (channelValue s .tOda) s.odr.tRef (some constantOutdoor) .constant
  let rh := chooseOutdoor s.odr.plume (channelValue s .rhOda) s.odr.rhRef none .absent
  { s with odr := { s.odr with tOut := t.1, tTag := some t.2, rhOut := rh.1, rhTag := some rh.2 } }

/-- The references and the effective values after a change of the peer table (R146, R150, R152). -/
def updateOutdoor (s : State) : State := updateEffective (updateReferences s)

/-- The plume hold ends (R147, R152). -/
def endPlume (s : State) : State :=
  updateEffective { s with odr := { s.odr with plume := false, plumeHold := none } }

/-- PLUME_HOLD_EXPIRY (R147). -/
def execPlumeHoldExpiry (s : State) : Host.Outcome State Fault Refusal :=
  whenInService (fun s => atLimit plumeHoldTime s.odr.plumeHold endPlume s) s

/-! ### The peer table -/

/-- A position's entry as INTENT and END create it, before they set their own fields (R144). -/
def blankEntry (position : Position) : PeerEntry where
  position := position
  announcement := .none
  urgency := none
  outdoorT := none
  outdoorRH := none
  plume := false
  boosting := false
  exhaustRH := none
  age := 0

/-- The entry a usable STATE frame leaves (R143). -/
def stateEntry (position : Position) (c : StateContent) : PeerEntry where
  position := position
  announcement := c.announcement
  urgency := c.urgency
  outdoorT := c.outdoorT
  outdoorRH := c.outdoorRH
  plume := c.plume
  boosting := c.boosting
  exhaustRH := c.exhaustRH
  age := 0

/-- The entry a usable INTENT frame leaves (R144). -/
def intentEntry (urgency : Nat) (e : PeerEntry) : PeerEntry :=
  { e with announcement := .intent, urgency := some urgency, age := 0 }

/-- The entry a usable END frame leaves (R144). -/
def endEntry (e : PeerEntry) : PeerEntry := { e with announcement := .none, urgency := none, age := 0 }

/-- A position's entry, if it has one. -/
def findEntry (position : Position) (entries : List PeerEntry) : Option PeerEntry :=
  entries.find? (fun e => e.position == position)

/-- The entry takes its position's place in the table, which is kept in ascending order of position (R142, R154). -/
def putEntry (e : PeerEntry) : List PeerEntry → List PeerEntry
  | [] => [e]
  | x :: rest =>
    if x.position.toNat < e.position.toNat then x :: putEntry e rest
    else if x.position = e.position then e :: rest
    else e :: x :: rest

/-- The plume evaluation at an entry's creation or update, for a position in PLUME (R147). -/
def evaluatePlumeOf (position : Position) (s : State) : State :=
  if inSet s.params.plume position then evaluatePlume s else s

/-- An entry is created or updated: the table, then the plume flag, the references and the effective values, and then the
frost guard where the position is in ADJ (R142, R146). -/
def recordEntry (e : PeerEntry) (s : State) : State :=
  let t := updateOutdoor (evaluatePlumeOf e.position
    { s with ptb := { s.ptb with entries := putEntry e s.ptb.entries } })
  if inSet s.params.adj e.position then adjUpdated e t else t

/-- The entry of a position, or a blank one where it has none (R144). -/
def entryOrBlank (position : Position) (s : State) : PeerEntry :=
  (findEntry position s.ptb.entries).getD (blankEntry position)

/-- A correct STATE frame at the peer table (R142, R143). -/
def hearState (sender : Position) (payload : List Byte) (s : State) : State :=
  if acceptedPosition s.params sender then
    match readState payload with
    | none => s
    | some c => recordEntry (stateEntry sender c) s
  else s

/-- A correct INTENT frame at the peer table (R142, R144). -/
def hearIntent (sender : Position) (payload : List Byte) (s : State) : State :=
  if acceptedPosition s.params sender then
    match readIntent payload with
    | none => s
    | some urgency => recordEntry (intentEntry urgency (entryOrBlank sender s)) s
  else s

/-- A correct END frame at the peer table (R142, R144). -/
def hearEnd (sender : Position) (payload : List Byte) (s : State) : State :=
  if acceptedPosition s.params sender && readEnd payload then recordEntry (endEntry (entryOrBlank sender s)) s else s

/-- The expiry limit in ticks (R145). -/
def expiryLimit (p : Params) : Nat := 2 ^ p.peerExp - 1

/-- The entry's age has reached the expiry limit (R145). -/
def expired (p : Params) (e : PeerEntry) : Bool := decide (expiryLimit p ≤ e.age)

/-- The removal of entries, handed on (R145, R146): the references and effective values, then the intent check where an
ADJ entry is among them (R158). -/
def removeEntries (gone : PeerEntry → Bool) (s : State) : State :=
  let t := updateOutdoor { s with ptb := { s.ptb with entries := s.ptb.entries.filter (fun e => !gone e) } }
  if anyAdj s gone then recheckIntent t else t

/-- The ageing tick (R145): ages and removals first, then the plume evaluation and what follows from it (R147). -/
def ageEntries (s : State) : State :=
  let aged := { s with ptb := { entries := s.ptb.entries.map (fun e => { e with age := e.age + 1 }), timer := some 0 } }
  let kept := { aged with ptb := { aged.ptb with entries := aged.ptb.entries.filter (fun e => !expired s.params e) } }
  let t := updateOutdoor (evaluatePlume kept)
  if anyAdj aged (expired s.params) then recheckIntent t else t

/-- AGEING_TICK (R145). -/
def execAgeingTick (s : State) : Host.Outcome State Fault Refusal :=
  whenInService (fun s => atLimit ageingPeriod s.ptb.timer ageEntries s) s

/-- An entry that stands at the expiry limit is removed (R145, log 4). -/
def expireEntry (position : Position) (s : State) : State :=
  if (s.ptb.entries.any fun e => e.position == position && expired s.params e) then
    removeEntries (fun e => e.position == position && expired s.params e) s
  else s

/-- PEER_ENTRY_EXPIRY (R145). -/
def execPeerEntryExpiry (position : Position) (s : State) : Host.Outcome State Fault Refusal :=
  whenInService (expireEntry position) s

end Sys2Proof.Machine
end

