-- ==== Sys2Proof/Machine/LineRx.lean ====
section
/-! DEFINITION. The terrace line (chapter 7): receiver phases, contentions, sending, reception, line states and faults. -/

namespace Sys2Proof.Machine

/-- The line controller reads the line and is not sending (R120, R122). -/
def receiving (s : State) : Bool := s.lnc.state != .off && s.lnc.shifter.isNone

def setLine (m : LineController) (s : State) : State := { s with lnc := m }

/-- The level the part drives on the line pair: without supply it releases it (R120, R166). -/
def lineDrive (s : State) : LineBit := !s.powered || drivenLevel s.lnc

/-! ### Idle space and contentions -/

/-- The idle space is reached: IDLE, and a stuck line has recovered (R122, R128). -/
def reachIdle (s : State) : State :=
  setLine { s.lnc with phase := .idle, idleRun := idleSpace, dominantRun := 0, stuckDeclared := false } s

/-- The receiver is in WAITING and counts recessive sample points (R122). -/
def counting (s : State) : Bool := s.lnc.state != .off && s.lnc.phase == .waiting

/-- IDLE_SPACE_REACHED (R122). -/
def execIdleSpaceReached (s : State) : Host.Outcome State Fault Refusal :=
  whenInService (fun s => if counting s then atLimit idleSpace (some s.lnc.idleRun) reachIdle s else s) s

/-- The ticks until the next sample point in WAITING, where one bit time lies between two of them (R120). -/
def untilSample (m : LineController) : Nat :=
  if m.idleRun = 0 then bitTimes 1 else (bitTimes 1 - m.idleRun % bitTimes 1) % bitTimes 1

/-- A dominant sample point sets the idle count back to 0 (R122) and is one more of a dominant run (R128). -/
def dominantSample (s : State) : State :=
  setLine { s.lnc with idleRun := 0, dominantRun := min stuckLimit (s.lnc.dominantRun + 1) } s

/-- A dominant sample point in WAITING (R122): time passes to the next sample point (log 2). -/
def dominantInWaiting (s : State) : State :=
  if counting s then dominantSample (passTime (untilSample s.lnc) s) else s

/-- DOMINANT_SAMPLE_IN_WAITING (R122, R128). -/
def execDominantSampleInWaiting (s : State) : Host.Outcome State Fault Refusal := whenInService dominantInWaiting s

/-- What this station puts into the shifter when a contention begins, and the slot it comes from: the first slot holding
a frame, in line state ACTIVE, with its arbitration field formed now (R124, R130). -/
def contender (s : State) : Option (Slot × ShiftedFrame) :=
  if s.lnc.state = .active then
    match firstSlot s.lnc, s.params.position with
    | some slot, some position =>
      (slotFrame s.lnc slot).map fun f => (slot, ⟨f, rotationRank position s.lnc.lastSender, position⟩)
    | _, _ => none
  else none

/-- A contention begins (R122): the reception starts, and a contender loads its shifter (R130). -/
def startContention (c : Contention) (joined : Option (Slot × ShiftedFrame)) (m : LineController) : LineController :=
  { m with
    phase := .inFrame
    frameTime := some 0
    read := [c.startBit]
    others := c.others
    failing := c.failing
    shifter := joined.map Prod.snd
    mark := joined.map Prod.fst }

/-- The consecutive-failure count rises by 1; at 3 the line state becomes QUIET (R131, R135). -/
def countFailure (m : LineController) : LineController :=
  if 3 ≤ m.failures + 1 then { m with failures := 3, state := .quiet, quiet := some 0 }
  else { m with failures := m.failures + 1 }

/-- A BIT_ERROR on the frame in the shifter (R131): abandoned, its slot kept, one line fault, one failure; a change of the
line state is handed to the frost guard (R158). -/
def failFrame (f : ShiftedFrame) (s : State) : State :=
  let t := lineFault .bitError (some f.sender) (some f.frame.kind)
    (setLine (toWaiting { s.lnc with shifter := none, mark := none }) s)
  let u := setLine (countFailure t.lnc) t
  if u.lnc.state = t.lnc.state then u else recheckIntent u

/-- The start bit at its sample point (R122): dominant begins a contention. Recessive is a glitch for a station that does
not drive it, and a BIT_ERROR for one that does (R125). -/
def beginContention (c : Contention) (s : State) : State :=
  if s.lnc.phase = .idle ∧ s.lnc.state ≠ .off then
    match c.startBit, contender s with
    | false, joined => setLine (startContention c joined s.lnc) s
    | true, some joined => failFrame joined.2 (setLine (startContention c (some joined) s.lnc) s)
    | true, none => setLine { s.lnc with phase := .idle, idleRun := idleSpace } s
  else s

/-- CONTENTION_BEGIN (R122). -/
def execContentionBegin (contention : Contention) (s : State) : Host.Outcome State Fault Refusal :=
  whenInService (beginContention contention) s

/-! ### The end of a sending -/

/-- A sender's comparison (R120, R125, R131): the ticks until the bit that decides it has been read, and what it then finds.
A success is decided at the seventh end bit, and a mismatch at the first bit not read as it was sent. -/
def comparison (m : LineController) : Option (Nat × SendVerdict) :=
  match m.shifter, m.frameTime with
  | some f, some e =>
    match mismatchPlace m f with
    | none => some (bitTimes (frameOnLine f).length - e, .success)
    | some place => some (bitTimes (place + 1) - e, mismatchVerdict f place)
  | _, _ => none

/-- A sender finds this at the bit that decides its comparison: time passes up to that moment (log 2), and the effect on the
frame in the shifter follows. Nothing happens where no comparison comes to it (log 3). -/
def whenCompared (v : SendVerdict) (effect : ShiftedFrame → State → State) (s : State) : State :=
  match s.lnc.shifter, comparison s.lnc with
  | some f, some (d, w) => if w = v then effect f (passTime d s) else s
  | _, _ => s

/-- A contention is lost (R125): the slot keeps its frame, the shifter is emptied, so that the station stops driving, and it
receives with the bits it has read so far (R130). -/
def loseContention (s : State) : State := setLine { s.lnc with shifter := none, mark := none } s

/-- CONTENTION_LOST (R125). -/
def execContentionLost (bit : Fin 9) (s : State) : Host.Outcome State Fault Refusal :=
  whenInService (whenCompared (.lost bit) fun _ => loseContention) s

/-- BIT_ERROR (R131). -/
def execBitError (s : State) : Host.Outcome State Fault Refusal :=
  whenInService (whenCompared .bitError failFrame) s

/-- The slot named by the in-shifter mark is emptied (R130). -/
def emptyMarked (m : LineController) : LineController :=
  match m.mark with
  | none => m
  | some slot => setSlot m slot none

/-- An own frame is a success (R131). -/
def succeed (f : ShiftedFrame) (s : State) : State :=
  markInactive .lineErrors (setLine
    (toWaiting { emptyMarked s.lnc with lastSender := f.sender, failures := 0, shifter := none, mark := none }) s)

/-- FRAME_SUCCESS (R131). -/
def execFrameSuccess (s : State) : Host.Outcome State Fault Refusal :=
  whenInService (whenCompared .success succeed) s

/-! ### The end of a reception -/

/-- The receiver reads on, bit by bit, until the reception is over or the bits are used up. -/
def readOn (r : Reader) : List LineBit → Nat × Reader
  | [] => (0, r)
  | b :: rest => if r.finished then (0, r) else ((readOn (r.step b) rest).1 + 1, (readOn (r.step b) rest).2)

/-- How and when the present reception ends (R126): the ticks until its last bit has been read, and the verdict; after 1000
bit times it is a timeout. There is none where no contention has begun. -/
def reception (m : LineController) : Option (Nat × Verdict) :=
  match m.frameTime with
  | none => none
  | some e =>
    let t := readOn (readerOf m.read) (nextBits (1000 - m.read.length) m)
    if t.2.finished then some (bitTimes (m.read.length + t.1) - e, t.2.verdict)
    else some (frameLimit - e, .timeout (t.2.sender.getD 0) (t.2.kind.getD 0))

/-- A reception of a station that is not sending ends with this verdict: time passes up to that moment (log 2), and the
effect follows. Nothing happens where no reception ends so (log 3). -/
def whenJudged (v : Verdict) (effect : State → State) (s : State) : State :=
  if receiving s then
    match reception s.lnc with
    | none => s
    | some (d, w) => if w = v then effect (passTime d s) else s
  else s

/-! ### Discarded frames and the stuck line -/

/-- A frame in reception is discarded with one line fault (R126, R137). -/
def discard (fault : LineFaultKind) (sender : Option Position) (kind : Option FrameKind) (s : State) : State :=
  lineFault fault sender kind (setLine (toWaiting s.lnc) s)

/-- STUFFING_VIOLATION (R121, R126). -/
def execStuffingViolation (sender : Option Position) (kind : Option (BitVec 3)) (s : State) :
    Host.Outcome State Fault Refusal :=
  whenInService (whenJudged (.violation sender kind) (discard .formError sender (kind.bind kindOfCode))) s

/-- CRC_ERROR (R126). -/
def execCrcError (sender : Position) (kind : BitVec 3) (s : State) : Host.Outcome State Fault Refusal :=
  whenInService (whenJudged (.crcError sender kind) (discard .crcError (some sender) (kindOfCode kind))) s

/-- FORM_ERROR (R126). -/
def execFormError (sender : Position) (kind : BitVec 3) (s : State) : Host.Outcome State Fault Refusal :=
  whenInService (whenJudged (.formError sender kind) (discard .formError (some sender) (kindOfCode kind))) s

/-- FRAME_TIMEOUT (R126). -/
def execFrameTimeout (sender : Position) (kind : BitVec 3) (s : State) : Host.Outcome State Fault Refusal :=
  whenInService (whenJudged (.timeout sender kind) (discard .frameTimeout (some sender) (kindOfCode kind))) s

/-- STUCK (R128, R137), declared once in a dominant run (log 19). -/
def declareStuck (s : State) : State := lineFault .stuck none none (setLine { s.lnc with stuckDeclared := true } s)

/-- In WAITING, 33 dominant sample points have come in a row, and no STUCK has been declared for them (R128). -/
def stuckInWaiting (s : State) : Bool :=
  counting s && s.lnc.dominantRun == stuckLimit && !s.lnc.stuckDeclared

/-- The line is stuck (R128): in WAITING at the 33rd dominant sample point, and in a reception that ends with it. -/
def stuckLine (s : State) : State :=
  if stuckInWaiting s then declareStuck s else whenJudged .stuck (fun s => declareStuck (setLine (toWaiting s.lnc) s)) s

/-- STUCK (R128). -/
def execStuck (s : State) : Host.Outcome State Fault Refusal := whenInService stuckLine s

/-! ### Correct frames -/

/-- A duplicate position is found (R136); a station that has found one makes no second detection. -/
def findDuplicate (s : State) : State :=
  if s.lnc.duplicate then s
  else
    duplicateFound (markActive .duplicatePosition
      (setLine { s.lnc with state := .listen, listenIn := none, quiet := none, duplicate := true } s))

/-- A correct frame from another station (R127): the last sender, LINE_ERRORS, the duplicate-position test, and then
what its kind is handed to. -/
def accept (sender : Position) (handOn : State → State) (s : State) : State :=
  let t := markInactive .lineErrors (setLine { toWaiting s.lnc with lastSender := sender } s)
  if t.params.position = some sender then findDuplicate t else handOn t

/-- The present reception ends with this correct frame (R126, R127). -/
def receive (kind : FrameKind) (sender : Position) (payload : List Byte) (handOn : State → State) (s : State) : State :=
  whenJudged (.correct kind sender payload) (accept sender handOn) s

/-- STATE_FRAME (R143). -/
def execStateFrame (sender : Position) (payload : List Byte) (s : State) : Host.Outcome State Fault Refusal :=
  whenInService (receive .state sender payload (hearState sender payload)) s

/-- INTENT_FRAME (R144). -/
def execIntentFrame (sender : Position) (payload : List Byte) (s : State) : Host.Outcome State Fault Refusal :=
  whenInService (receive .intent sender payload (hearIntent sender payload)) s

/-- END_FRAME (R144). -/
def execEndFrame (sender : Position) (payload : List Byte) (s : State) : Host.Outcome State Fault Refusal :=
  whenInService (receive .endThaw sender payload (hearEnd sender payload)) s

/-- REPLY_FRAME (R127): a REPLY from another station is not handed on. -/
def execReplyFrame (sender : Position) (payload : List Byte) (s : State) : Host.Outcome State Fault Refusal :=
  whenInService (receive .reply sender payload id) s

/-! ### Line states and the STATE period -/

/-- The quiet timer ends (R135). -/
def endQuiet (s : State) : State :=
  if s.lnc.state = .quiet then
    recheckIntent (setLine { s.lnc with state := .active, failures := 0, quiet := none } s)
  else s

/-- QUIET_TIMER_EXPIRY (R135). -/
def execQuietTimerExpiry (s : State) : Host.Outcome State Fault Refusal :=
  whenInService (fun s => atLimit quietTime s.lnc.quiet endQuiet s) s

/-- The listen-in ends (R134). -/
def endListenIn (s : State) : State :=
  if s.lnc.state = .listen then recheckIntent (setLine { s.lnc with state := .active, listenIn := none } s) else s

/-- LISTEN_IN_EXPIRY (R134). -/
def execListenInExpiry (s : State) : Host.Outcome State Fault Refusal :=
  whenInService (fun s => atLimit listenInTime s.lnc.listenIn endListenIn s) s

/-- STATE_PERIOD_EXPIRY (R132). -/
def execStatePeriodExpiry (s : State) : Host.Outcome State Fault Refusal :=
  whenInService (fun s => atLimit statePeriodTime s.lnc.statePeriod composeState s) s

end Sys2Proof.Machine
end

