-- ==== Sys2Proof/Machine/Scan.lean ====
section
/-! DEFINITION. The measurement scanner (chapter 1). -/

namespace Sys2Proof.Machine

/-- A sample on a VALID channel (R6, R7). -/
def sampleOnValid (x : Sample) (r : ChannelRecord) : ChannelRecord :=
  match x with
  | .good v => { r with value := some v }
  | .bad reason => { r with state := .held, reason := some reason, hold := some 0 }

/-- A sample on a HELD channel (R8). -/
def sampleOnHeld (x : Sample) (r : ChannelRecord) : ChannelRecord :=
  match x with
  | .good v => { r with state := .valid, value := some v, hold := none }
  | .bad reason => { r with reason := some reason }

/-- A sample on a FAULT channel (R10). -/
def sampleOnFault (x : Sample) (r : ChannelRecord) : ChannelRecord :=
  match x with
  | .good v =>
    if 3 ≤ r.goodRun + 1 then { r with state := .valid, value := some v, goodRun := 0 }
    else { r with goodRun := r.goodRun + 1 }
  | .bad reason => { r with reason := some reason, goodRun := 0 }

/-- A sample on a channel's record (R6 to R10). -/
def takeSample (x : Sample) (r : ChannelRecord) : ChannelRecord :=
  match r.state with
  | .valid => sampleOnValid x r
  | .held => sampleOnHeld x r
  | .fault => sampleOnFault x r

def Sample.isBad : Sample → Bool
  | .good _ => false
  | .bad _ => true

/-- What a sample does to the channel's SENS kind (R10, R12). -/
def markSens (ch : Channel) (x : Sample) (before after : ChannelRecord) (s : State) : State :=
  if before.state = .fault then
    if x.isBad then markActive (.sens ch) s
    else if after.state = .valid then markInactive (.sens ch) s
    else s
  else s

/-- T_EHA's record has changed (R11, R81, R83). -/
def exhaustChanged (before after : ChannelRecord) (s : State) : State :=
  if after.state = .fault ∧ before.state ≠ .fault then exhaustLost s
  else if after.state = .valid ∧ before.state ≠ .valid then exhaustBack s
  else s

/-- The outdoor resolver takes a change of T_ODA or RH_ODA once it is in service (R152, R153). -/
def outdoorChanged (s : State) : State := if inService s then updateEffective s else s

/-- A change of a record's state or value is handed to the channel's readers (R11). -/
def handOver (ch : Channel) (before after : ChannelRecord) (s : State) : State :=
  if before.state = after.state ∧ before.value = after.value then s
  else
    match ch with
    | .tOda => outdoorChanged s
    | .rhOda => outdoorChanged s
    | .tSup => refreshAvailability s
    | .tEha => exhaustChanged before after s
    | .tEta => s
    | .rhEta => s
    | .pSupf => s
    | .pExt => s

/-- A conversion of a channel completes with this sample (R2, R6 to R11). -/
def takeConversion (ch : Channel) (x : Sample) (s : State) : State :=
  let before := channel s ch
  let after := takeSample x before
  handOver ch before after (markSens ch x before after (setChannel s ch after))

/-- CONVERSION_COMPLETE (R2). -/
def execConversionComplete (ch : Channel) (raw : BitVec 12) (s : State) : Host.Outcome State Fault Refusal :=
  whenPowered (takeConversion ch (sampleOf ch raw)) s

/-- A record at its hold's expiry (R9). -/
def holdExpired (r : ChannelRecord) : ChannelRecord :=
  { r with state := .fault, value := none, hold := none, goodRun := 0 }

/-- The hold of a HELD channel expires (R9). -/
def expireHold (ch : Channel) (s : State) : State :=
  let before := channel s ch
  if before.state = .held then
    handOver ch before (holdExpired before) (markActive (.sens ch) (setChannel s ch (holdExpired before)))
  else s

/-- HOLD_TIMER_EXPIRY (R9). -/
def execHoldTimerExpiry (ch : Channel) (s : State) : Host.Outcome State Fault Refusal :=
  whenPowered (fun s => atLimit channelHold (channel s ch).hold (expireHold ch) s) s

/-- The shortest level, in microseconds, that a tachometer input does not ignore (R13). -/
def tachFilter : Nat := 100

/-- A falling edge of a tachometer input, with the levels before and after it (R13): a level that is too short is ignored,
and a pulse is counted where the input's level, so read, falls. -/
def countPulse (f : Fan) (highBefore lowAfter : Nat) (m : Scanner) : Scanner :=
  let high := m.tachHigh.get f || decide (tachFilter ≤ highBefore)
  if tachFilter ≤ lowAfter then
    { m with
      pulses := if high then m.pulses.set f (m.pulses.get f + 1) else m.pulses
      tachHigh := m.tachHigh.set f false }
  else { m with tachHigh := m.tachHigh.set f high }

/-- TACH_EDGE (R13). -/
def execTachEdge (f : Fan) (highBefore lowAfter : Nat) (s : State) : Host.Outcome State Fault Refusal :=
  whenPowered (fun s => { s with msc := countPulse f highBefore lowAfter s.msc }) s

/-- A window's pulses as a speed (R14). -/
def pulseSpeed (pulses : Nat) : Nat := min 4000 (30 * pulses)

/-- A fan's measured speed is set (R14). -/
def setMeasured (f : Fan) (speed : Nat) (s : State) : State := setFan s f { fan s f with measured := speed }

/-- The scan completes: both windows are converted, new ones start, and confirmed running is handed on (R14, R38). -/
def completeScan (s : State) : State :=
  let t := setMeasured .ext (pulseSpeed s.msc.pulses.ext) (setMeasured .sup (pulseSpeed s.msc.pulses.sup) s)
  refreshAvailability { t with msc := { t.msc with pulses := ⟨0, 0⟩, timer := 0 } }

/-- SCAN_COMPLETION (R14). -/
def execScanCompletion (s : State) : Host.Outcome State Fault Refusal :=
  whenPowered (fun s => atLimit scanPeriod (some s.msc.timer) completeScan s) s

end Sys2Proof.Machine
end

