-- ==== Sys2Proof/Machine/Records.lean ====
section
/-! DEFINITION. The reply records (11.6): each record's fields as bits in the order and widths of the layout, an absent value
as R176 codes it. -/

namespace Sys2Proof.Machine

/-! ### Codes (R176) -/

def channelStateCode : ChannelState → Nat
  | .valid => 0
  | .held => 1
  | .fault => 2

def reasonCode : Option Reason → Nat
  | none => 0
  | some .opened => 1
  | some .short => 2
  | some .outOfRange => 3

def fanStateCode : FanState → Nat
  | .off => 0
  | .running => 1
  | .settled => 2
  | .fault => 3

def frostStateCode : FrostState → Nat
  | .clear => 0
  | .watch => 1
  | .preheat => 2
  | .reduce => 3
  | .intent => 4
  | .thawU => 5
  | .thawB => 6
  | .recover => 7
  | .fallback => 8

def denialCode : Option Denial → Nat
  | none => 0
  | some .peerThaw => 1
  | some .peerPrecedence => 2
  | some .combustion => 3
  | some .line => 4

def climateCode : ClimateSet → Nat
  | .mild => 0
  | .normal => 1
  | .cold => 2

/-- The level set in use, with COMBUSTION at place 3. -/
def levelSetCode (s : State) : Nat :=
  if (topEntry s.mst).origin = .combustion then 3 else climateCode s.mst.climate

/-- The outdoor tags; CONSTANT and ABSENT share a place, and no reply is composed before the tags stand (R153, R172). -/
def outdoorTagCode : Option OutdoorTag → Nat
  | none => 2
  | some .own => 0
  | some .terrace => 1
  | some .constant => 2
  | some .absent => 2

def originCode : Origin → Nat
  | .base => 0
  | .away => 1
  | .humDry => 2
  | .humBoost => 3
  | .button => 4
  | .combustion => 5

def lineStateCode : LineState → Nat
  | .off => 0
  | .listen => 1
  | .active => 2
  | .quiet => 3

def markCode : Option Slot → Nat
  | none => 0
  | some .urgent => 1
  | some .reply => 2
  | some .state => 3

def portStateCode : PortState → Nat
  | .loading => 0
  | .idle => 1
  | .saving => 2

def configResultCode : ConfigResult → Nat
  | .ok => 0
  | .noMemory => 1
  | .header => 2
  | .configSum => 3
  | .configRange => 4

def recordResultCode : RecordResult → Nat
  | .ok => 0
  | .notRead => 1
  | .recordSum => 2
  | .recordRange => 3

def lineFaultCode : LineFaultKind → Nat
  | .bitError => 0
  | .crcError => 1
  | .formError => 2
  | .frameTimeout => 3
  | .stuck => 4

/-! ### Fields -/

/-- A 12-bit temperature, −2048 where absent. -/
def temperatureBits (t : Option Int) : List Bool := intBits 12 (t.getD (-2048))

/-- A 10-bit humidity, 1023 where absent. -/
def humidityBits (h : Option Int) : List Bool := intBits 10 (h.getD 1023)

/-- The 11-bit RISE, −1024 where absent. -/
def riseBits (r : Option Int) : List Bool := intBits 11 (r.getD (-1024))

/-- A field that the layout gives a place and no value: a free value (log 10). -/
def openBits (s : State) (field w : Nat) : List Bool := natBits w (Config.openField s.freeIndex field)

/-- The elapsed whole seconds of a running timer of the LINE record; a stopped one's have no stated value (R139).
The unit is the model's reading (log 36). -/
def elapsedBits (s : State) (field w : Nat) : Option Nat → List Bool
  | none => openBits s field w
  | some t => natBits w t

/-! ### STATUS -/

def channelBits (s : State) (ch : Channel) : List Bool :=
  natBits 2 (channelStateCode (channel s ch).state) ++ natBits 2 (reasonCode (channel s ch).reason)
    ++ intBits 12 ((channelValue s ch).getD 0)

def fanBits (r : FanRecord) : List Bool :=
  natBits 2 (fanStateCode r.state) ++ natBits 2 r.retryCount ++ flagBit r.shortfall ++ natBits 11 r.target
    ++ natBits 11 r.commanded ++ natBits 12 r.speedTarget ++ natBits 12 r.measured ++ natBits 10 r.duty

def modeBits (s : State) : List Bool :=
  natBits 2 (climateCode s.mst.climate) ++ natBits 2 (levelSetCode s) ++ flagBit (combustionFlag s)
    ++ flagBit s.mst.boost.low ++ flagBit s.mst.away.low ++ flagBit (combustionActive s)

/-- The frost guard's fields (R88). The thaw timer is sent in whole elapsed seconds, truncated (DESIGN CHOICE, log 36). -/
def frostBits (s : State) : List Bool :=
  natBits 4 (frostStateCode s.frg.state) ++ flagBit (timedThawOn s) ++ natBits 16 s.frg.load
    ++ temperatureBits s.frg.tdEta ++ flagBit s.frg.icePossible ++ natBits 8 s.frg.iceIndex
    ++ flagBit s.frg.available ++ natBits 7 s.frg.power ++ flagBit s.frg.cutout.low
    ++ natBits 12 ((s.frg.thaw.map wholeSeconds).getD 4095) ++ natBits 2 (announcementCode (announcement s))
    ++ natBits 8 (s.frg.urgency.getD 0) ++ natBits 3 (denialCode s.frg.denial)

def ruleBits (s : State) (i : Fin 4) : List Bool :=
  natBits 6 s.hev.counters[i] ++ flagBit (ruleAsserted s.params s.hev i)

def evaluatorBits (s : State) : List Bool :=
  humidityBits (newestSample s.hev) ++ natBits 4 s.hev.writeIndex.val ++ riseBits s.hev.rise
    ++ temperatureBits s.hev.tdEta ++ temperatureBits s.hev.tdOut
    ++ ruleBits s 0 ++ ruleBits s 1 ++ ruleBits s 2 ++ ruleBits s 3
    ++ flagBit s.hev.boost ++ flagBit s.hev.dry ++ flagBit (boostingFlag s)

def outdoorBits (s : State) : List Bool :=
  temperatureBits s.odr.tOut ++ natBits 2 (outdoorTagCode s.odr.tTag) ++ humidityBits s.odr.rhOut
    ++ natBits 2 (outdoorTagCode s.odr.rhTag) ++ flagBit s.odr.plume
    ++ temperatureBits s.odr.tRef ++ natBits 4 (referenceValues s PeerEntry.outdoorT).length
    ++ humidityBits s.odr.rhRef ++ natBits 4 (referenceValues s PeerEntry.outdoorRH).length

def portBits (s : State) : List Bool :=
  natBits 2 (portStateCode s.mpt.state) ++ flagBit s.mpt.savePending
    ++ natBits 3 (configResultCode s.mpt.configResult) ++ natBits 2 (recordResultCode s.mpt.recordResult)

/-- The channels in the order of the STATUS record. -/
def channelOrder : List Channel := [.tOda, .tSup, .tEta, .tEha, .rhEta, .rhOda, .pSupf, .pExt]

/-- STATUS, 479 bits (R16, R41, R60, R88, R119, R154, R171). -/
def statusBits (s : State) : List Bool :=
  channelOrder.flatMap (channelBits s) ++ fanBits (fan s .sup) ++ fanBits (fan s .ext) ++ modeBits s ++ frostBits s
    ++ evaluatorBits s ++ outdoorBits s ++ portBits s

/-! ### The other spaces -/

/-- LX and the hold of F_EXT's index; the record for F_SUP carries 0 and 0. -/
def extractBits (s : State) : Fan → List Bool
  | .sup => natBits 8 0 ++ flagBit false
  | .ext => natBits 8 s.flm.lx ++ flagBit s.frg.icePossible

/-- A FILTERS record, 109 bits (R106); a stopped timer stands at 0 (R98, R100, R103). -/
def filterBits (s : State) (f : Fan) : List Bool :=
  let r := filterRecord s f
  natBits 3 (filterStateCode r.state) ++ natBits 10 (r.dpRef.getD 0) ++ natBits 11 (r.qRef.getD 0)
    ++ natBits 8 r.index ++ natBits 16 r.runHours ++ natBits 24 r.volume ++ natBits 10 r.hoursDue
    ++ flagBit r.blocked.isSome ++ natBits 10 ((r.blocked.map wholeSeconds).getD 0)
    ++ flagBit r.capture.isSome ++ natBits 6 (r.capture.getD 0)
    ++ extractBits s f

/-- An occupied PEERS slot, 54 bits (R154). -/
def entryBits (e : PeerEntry) : List Bool :=
  natBits 4 e.position.toNat ++ natBits 2 (announcementCode e.announcement) ++ natBits 8 (e.urgency.getD 0)
    ++ temperatureBits e.outdoorT ++ humidityBits e.outdoorRH ++ flagBit e.plume ++ flagBit e.boosting
    ++ humidityBits e.exhaustRH ++ natBits 6 e.age

/-- A PEERS slot; position 15 marks an empty one. -/
def peerBits (s : State) (i : Nat) : List Bool :=
  match s.ptb.entries[i]? with
  | some e => entryBits e
  | none => natBits 4 15 ++ openBits s i 50

/-- The entries of the mode stack from the top (R60). -/
def stackEntries (m : ModeStack) : List ModeEntry := m.above ++ [m.base]

/-- An occupied MODES slot, 38 bits (R60). -/
def modeEntryBits (e : ModeEntry) : List Bool :=
  natBits 3 (originCode e.origin) ++ natBits 2 (priority e.origin) ++ natBits 3 e.level.val
    ++ natBits 14 (e.remaining.getD 16383) ++ natBits 16 e.seq.toNat

/-- A MODES slot; origin 7 marks an empty one. -/
def modeSlotBits (s : State) (i : Nat) : List Bool :=
  match (stackEntries s.mst)[i]? with
  | some e => modeEntryBits e
  | none => natBits 3 7 ++ openBits s i 35

/-- A FAULTS record, 73 bits (R174). -/
def faultBits (r : FaultRecord) : List Bool :=
  flagBit r.active ++ natBits 8 r.count ++ natBits 32 r.first.toNat ++ natBits 32 r.last.toNat

def faultAt (s : State) (i : Nat) : FaultRecord := s.srf.faults.toList.getD i FaultRecord.atPowerOn

/-- A slot of the LINE record: whether it holds a frame, and of which kind. -/
def slotBits (s : State) (field : Nat) : Option Frame → List Bool
  | none => flagBit false ++ openBits s field 3
  | some f => flagBit true ++ natBits 3 (kindCode f.kind)

/-- The sender of the capture, with its presence bit. -/
def captureSenderBits (s : State) (field : Nat) : Option Position → List Bool
  | none => flagBit false ++ openBits s field 4
  | some p => flagBit true ++ natBits 4 p.toNat

/-- The capture of the LINE record, 44 bits; frame kind 7 is absent. -/
def captureBits (s : State) : List Bool :=
  match s.lnc.capture with
  | none => flagBit false ++ openBits s 5 3 ++ flagBit false ++ openBits s 6 4 ++ natBits 3 7 ++ openBits s 7 32
  | some c =>
    flagBit true ++ natBits 3 (lineFaultCode c.fault) ++ captureSenderBits s 6 c.sender
      ++ natBits 3 ((c.kind.map kindCode).getD 7) ++ natBits 32 c.time.toNat

/-- LINE, 76 bits (R139). -/
def lineRecordBits (s : State) : List Bool :=
  natBits 2 (lineStateCode s.lnc.state) ++ natBits 4 s.lnc.lastSender.toNat ++ natBits 2 s.lnc.failures
    ++ elapsedBits s 0 5 (s.lnc.quiet.map wholeSeconds) ++ elapsedBits s 1 5 (s.lnc.listenIn.map wholeSeconds)
    ++ slotBits s 2 s.lnc.urgent ++ slotBits s 3 s.lnc.reply ++ slotBits s 4 s.lnc.stateSlot
    ++ natBits 2 (markCode s.lnc.mark) ++ captureBits s

end Sys2Proof.Machine
end

