-- ==== Sys2Proof/Machine/ServiceAccess.lean ====
section
/-! DEFINITION. The service responder (chapter 11): queries, clears and the flashing lamps. -/

namespace Sys2Proof.Machine

/-- The spaces a QUERY may name (R172). -/
inductive Space where
  | status | filters | peers | modes | faults | line
  deriving DecidableEq, Repr

def spaceCode : Space → Nat
  | .status => 0
  | .filters => 1
  | .peers => 2
  | .modes => 3
  | .faults => 4
  | .line => 5

/-- How many records a space has (R172). -/
def spaceSize : Space → Nat
  | .status => 1
  | .filters => 2
  | .peers => 14
  | .modes => 5
  | .faults => 17
  | .line => 1

/-- How many whole records of a space fit in 61 bytes (R172). -/
def spaceFit : Space → Nat
  | .status => 1
  | .filters => 4
  | .peers => 8
  | .modes => 12
  | .faults => 6
  | .line => 6

/-- Record `i` of a space as bits (11.6). -/
def recordBits (s : State) (space : Space) (i : Nat) : List Bool :=
  match space with
  | .status => statusBits s
  | .filters => filterBits s (if i = 0 then .sup else .ext)
  | .peers => peerBits s i
  | .modes => modeSlotBits s i
  | .faults => faultBits (faultAt s i)
  | .line => lineRecordBits s

/-- The REPLY payload's first byte: space code, code OK or RANGE, number sent (11.5). -/
def replyHeader (space : Space) (range : Bool) (sent : Nat) : Byte :=
  packBytes.bitsToByte (natBits 3 (spaceCode space) ++ flagBit range ++ natBits 4 sent)

/-- How many records a reply sends (R172). -/
def replyCount (space : Space) (count : Nat) : Nat := min count (spaceFit space)

/-- The REPLY payload to a query of `count` records from `start` (R172). -/
def replyPayload (s : State) (space : Space) (start count : Nat) : List Byte :=
  if spaceSize space < start + count then [replyHeader space true 0, BitVec.ofNat 8 start]
  else
    [replyHeader space false (replyCount space count), BitVec.ofNat 8 start]
      ++ (List.range (replyCount space count)).flatMap fun k => packBytes (recordBits s space (start + k))

/-- The frame is addressed to this station, in line state ACTIVE (R172). -/
def addressed (s : State) (target : Byte) : Bool :=
  s.lnc.state == .active && s.params.position.any (fun p => p.toNat == target.toNat)

/-- A QUERY the responder takes is answered with a REPLY, composed now and staged (R172). The free values of the reply's
open fields are used up by it (log 10). -/
def answerQuery (space : Space) (payload : List Byte) (s : State) : State :=
  match payload with
  | [target, code, start, count] =>
    if addressed s target && code.toNat == spaceCode space then
      stage .reply ⟨.reply, replyPayload s space start.toNat count.toNat⟩ { s with freeIndex := s.freeIndex + 1 }
    else s
  | _ => s

/-- A CLEAR the responder takes acts at the event of the frame (R173). -/
def takeClear (item : Nat) (effect : State → State) (payload : List Byte) (s : State) : State :=
  match payload with
  | [target, code] => if addressed s target && code.toNat == item then effect s else s
  | _ => s

/-- QUERY_STATUS (R172). -/
def execQueryStatus (sender : Position) (payload : List Byte) (s : State) : Host.Outcome State Fault Refusal :=
  whenInService (receive .query sender payload (answerQuery .status payload)) s

/-- QUERY_FILTERS (R172). -/
def execQueryFilters (sender : Position) (payload : List Byte) (s : State) : Host.Outcome State Fault Refusal :=
  whenInService (receive .query sender payload (answerQuery .filters payload)) s

/-- QUERY_PEERS (R172). -/
def execQueryPeers (sender : Position) (payload : List Byte) (s : State) : Host.Outcome State Fault Refusal :=
  whenInService (receive .query sender payload (answerQuery .peers payload)) s

/-- QUERY_MODES (R172). -/
def execQueryModes (sender : Position) (payload : List Byte) (s : State) : Host.Outcome State Fault Refusal :=
  whenInService (receive .query sender payload (answerQuery .modes payload)) s

/-- QUERY_FAULTS (R172). -/
def execQueryFaults (sender : Position) (payload : List Byte) (s : State) : Host.Outcome State Fault Refusal :=
  whenInService (receive .query sender payload (answerQuery .faults payload)) s

/-- QUERY_LINE (R172). -/
def execQueryLine (sender : Position) (payload : List Byte) (s : State) : Host.Outcome State Fault Refusal :=
  whenInService (receive .query sender payload (answerQuery .line payload)) s

/-- The line fault capture is emptied (R138). -/
def emptyCapture (s : State) : State := { s with lnc := { s.lnc with capture := none } }

/-- CLEAR_LINE_CAPTURE (R138, R173). -/
def execClearLineCapture (sender : Position) (payload : List Byte) (s : State) : Host.Outcome State Fault Refusal :=
  whenInService (receive .clear sender payload (takeClear 0 emptyCapture payload)) s

/-- CLEAR_FAULT_COUNTS (R173). -/
def execClearFaultCounts (sender : Position) (payload : List Byte) (s : State) : Host.Outcome State Fault Refusal :=
  whenInService (receive .clear sender payload (takeClear 1 clearCounts payload)) s

/-- CLEAR_FAN_RETRY (R36, R173). -/
def execClearFanRetry (sender : Position) (payload : List Byte) (s : State) : Host.Outcome State Fault Refusal :=
  whenInService (receive .clear sender payload (takeClear 2 clearRetries payload)) s

/-! ### Lamps -/

def flashingLamp (m : Service) : FlashingLamp → Lamp
  | .filter => m.filterLamp
  | .fault => m.faultLamp

def setLamp (m : Service) (lamp : FlashingLamp) (l : Lamp) : Service :=
  match lamp with
  | .filter => { m with filterLamp := l }
  | .fault => { m with faultLamp := l }

/-- The time in the present place of a flashing lamp; a lamp that does not flash has no such timer (R175). -/
def lampTimer (l : Lamp) : Option Nat := if (patternTimes l.pattern).isEmpty then none else some l.timer

/-- A flashing lamp moves to its next place (R175). -/
def flashStep (lamp : FlashingLamp) (s : State) : State :=
  { s with srf := setLamp s.srf lamp (nextPlace (flashingLamp s.srf lamp)) }

/-- LAMP_FLASH_STEP (R175). -/
def execLampFlashStep (lamp : FlashingLamp) (s : State) : Host.Outcome State Fault Refusal :=
  whenInService
    (fun s => atLimit (placeTime (flashingLamp s.srf lamp)) (lampTimer (flashingLamp s.srf lamp)) (flashStep lamp) s) s

end Sys2Proof.Machine
end

