-- ==== Sys2Proof/Machine/StartUp.lean ====
section
/-! DEFINITION. Power, the start load and what the blocks take up at its completion (chapter 10). -/

namespace Sys2Proof.Machine

/-! ### Power -/

/-- A save in flight ends where it stands: the byte being written may hold either value (R171). -/
def cutSave (s : State) : State :=
  match s.mpt.save with
  | none => s
  | some sv => byteUndecided sv s

/-- Every block at its power-on values; the inputs stand as they stand outside the part, and the serial memory keeps its
contents (R166). -/
def powerOnState (powered : Bool) (s : State) : State where
  powered := powered
  uptime := 0
  params := defaultParams
  msc := Scanner.atPowerOn
  fdr := FanDrive.atPowerOn
  mst := ModeStack.atPowerOn s.mst.boost.high s.mst.away.high s.mst.combustion.high
  frg := FrostGuard.atPowerOn s.frg.cutout.high
  flm := FilterMonitor.atPowerOn s.flm.button.high
  hev := Humidity.atPowerOn
  lnc := LineController.atPowerOn
  ptb := PeerTable.atPowerOn
  odr := Outdoor.atPowerOn
  mpt := MemoryPort.atPowerOn
  srf := Service.atPowerOn
  memory := s.memory
  freeIndex := s.freeIndex
  pending := s.pending

/-- POWER_ON (R166): in a part that has supply, the return after a dip (log 23). -/
def execPowerOn (s : State) : Host.Outcome State Fault Refusal := .next (powerOnState true (cutSave s))

/-- POWER_LOSS (R171). -/
def execPowerLoss (s : State) : Host.Outcome State Fault Refusal := .next (powerOnState false (cutSave s))

/-! ### The completion of the start load -/

/-- The image's header was the one expected: the place of the record block is known (R167). -/
def located : ConfigResult → Bool
  | .ok => true
  | .noMemory => false
  | .header => false
  | .configSum => true
  | .configRange => true

/-- The configuration in use (R167). -/
def paramsInUse (img : Option (List Byte)) : Params :=
  if checkConfig img = .ok then imageParams (img.getD []) else defaultParams

/-- The record check on what was read (R168). -/
def recordsInUse (img : Option (List Byte)) : RecordResult × PerFan FilterRecord :=
  checkRecords (paramsInUse img) (located (checkConfig img)) (img.getD [])

/-- The port after the checks: IDLE, with their results (R166 to R169). -/
def loadedPort (img : Option (List Byte)) (m : MemoryPort) : MemoryPort :=
  { m with
    state := .idle
    settling := none
    busyPoll := none
    busyTime := none
    select := false
    configResult := checkConfig img
    recordResult := (recordsInUse img).1
    locationKnown := located (checkConfig img) }

/-- A kind is marked active where a check has failed (R167, R168). -/
def markIf (failed : Bool) (k : FaultKind) (s : State) : State := if failed then markActive k s else s

/-- Both checks and their results (R167, R168). -/
def takeImage (img : Option (List Byte)) (s : State) : State :=
  markIf ((recordsInUse img).1 != .ok) .recordsLost
    (markIf (checkConfig img != .ok) .configDefaults
      { s with params := paramsInUse img, mpt := loadedPort img s.mpt })

/-- The line controller enters LISTEN (R124, R132 to R134). -/
def startLine (s : State) : State :=
  setLine
    { s.lnc with
      state := .listen
      lastSender := s.params.position.getD 0
      phase := .waiting
      idleRun := 0
      listenIn := if s.params.position.isSome then some 0 else none
      statePeriod := some 0 } s

/-- The mode stack takes up its configuration and its inputs, and the two buttons are seen as held or not (R59, R46,
R102). -/
def takeUpStack (s : State) : State :=
  let s := { s with
    mst := { s.mst with
      base := { s.mst.base with level := s.params.baseLevel }
      countdown := some 0
      boost := s.mst.boost.atStart }
    flm := { s.flm with button := s.flm.button.atStart } }
  takeCombustion (takeAway s)

/-- The mode stack's take-up and the fan drive's first evaluation, in either order (R59). With the take-up first, the
evaluation is due at once as the next FAN_EVALUATION (log 6). -/
def takeUpFlows (order : StartOrder) (s : State) : State :=
  match order with
  | .fanFirst => takeUpStack (fanEvaluate s)
  | .stackFirst => takeUpStack { s with fdr := { s.fdr with timer := some fanPeriod } }

/-- The blocks with 10 s periods start their timers (R61, R107, R145). -/
def startPeriods (s : State) : State :=
  { s with
    frg := { s.frg with timer := some 0 }
    hev := { s.hev with timer := some 0 }
    ptb := { s.ptb with timer := some 0 } }

/-- The completion of the start load with what was read (R166, 10.2): the checks, the line, the records, the flows and the
stack, CUTOUT, the outdoor values and the first climate-set evaluation. Whether the fan drive's first evaluation sees the
climate set before or after that evaluation is left open by R17 and R59: it is before it with fanFirst and after it with
stackFirst (DESIGN CHOICE, log 6). -/
def completeLoad (order : StartOrder) (img : Option (List Byte)) (s : State) : State :=
  let s := placeRecords (recordsInUse img).2 (startLine (takeImage img s))
  evaluateClimate (updateOutdoor (startPeriods (takeCutout (takeUpFlows order s))))

/-! ### The start load -/

/-- The start load is in this phase. -/
def loadingIn (phase : LoadPhase) (s : State) : Bool := s.mpt.state == .loading && s.mpt.load == phase

/-- One look at the memory's status (R166): no response completes the start load, a busy memory is looked at again in
10 ms, and a ready one is read in one transfer. The 3 s count from the first look (log 7). -/
def lookAtMemory (status : Byte) (order : StartOrder) (s : State) : State :=
  if noResponse status then completeLoad order none { s with mpt := { s.mpt with sent := [statusRead] } }
  else if memoryBusy status then
    { s with mpt := { s.mpt with
        load := .busy
        settling := none
        busyPoll := some 0
        busyTime := some (s.mpt.busyTime.getD 0)
        sent := [statusRead] } }
  else
    { s with mpt := { s.mpt with
        load := .reading
        settling := none
        busyPoll := none
        busyTime := none
        sent := [statusRead, readFrom 0]
        select := true } }

/-- SETTLING_WAIT_EXPIRY (R166). -/
def execSettlingWaitExpiry (status : Byte) (order : StartOrder) (s : State) : Host.Outcome State Fault Refusal :=
  whenPowered
    (fun s => if loadingIn .settling s then atLimit settlingWait s.mpt.settling (lookAtMemory status order) s else s) s

/-- MEMORY_BUSY_POLL (R166). -/
def execMemoryBusyPoll (status : Byte) (order : StartOrder) (s : State) : Host.Outcome State Fault Refusal :=
  whenPowered
    (fun s => if loadingIn .busy s then atLimit busyPollTime s.mpt.busyPoll (lookAtMemory status order) s else s) s

/-- MEMORY_BUSY_TIMEOUT (R166). -/
def execMemoryBusyTimeout (order : StartOrder) (s : State) : Host.Outcome State Fault Refusal :=
  whenPowered
    (fun s => if loadingIn .busy s then atLimit busyLimit s.mpt.busyTime (completeLoad order none) s else s) s

/-- START_LOAD_COMPLETION (R166): the image has been read. -/
def execStartLoadCompletion (order : StartOrder) (s : State) : Host.Outcome State Fault Refusal :=
  whenPowered
    (fun s => if loadingIn .reading s then completeLoad order (some (readImage s.memory)) s else s) s

end Sys2Proof.Machine
end

