-- ==== Sys2Proof/Machine/Dispatch.lean ====
section
/-! DEFINITION. The meaning of every command: one arm per constructor of Instr. -/

namespace Sys2Proof.Machine

def exec (i : Instr) (s : State) : Host.Outcome State Fault Refusal :=
  match i with
  | .powerOn => Sys2Proof.Machine.execPowerOn s
  | .settlingWaitExpiry status order => Sys2Proof.Machine.execSettlingWaitExpiry status order s
  | .memoryBusyPoll status order => Sys2Proof.Machine.execMemoryBusyPoll status order s
  | .memoryBusyTimeout order => Sys2Proof.Machine.execMemoryBusyTimeout order s
  | .startLoadCompletion order => Sys2Proof.Machine.execStartLoadCompletion order s
  | .conversionComplete ch raw => Sys2Proof.Machine.execConversionComplete ch raw s
  | .holdTimerExpiry ch => Sys2Proof.Machine.execHoldTimerExpiry ch s
  | .tachEdge fan highBefore lowAfter => Sys2Proof.Machine.execTachEdge fan highBefore lowAfter s
  | .scanCompletion => Sys2Proof.Machine.execScanCompletion s
  | .fanEvaluation => Sys2Proof.Machine.execFanEvaluation s
  | .settleTimerExpiry fan => Sys2Proof.Machine.execSettleTimerExpiry fan s
  | .stallTimerExpiry fan => Sys2Proof.Machine.execStallTimerExpiry fan s
  | .retryPauseExpiry fan => Sys2Proof.Machine.execRetryPauseExpiry fan s
  | .inputLevelChange pin high => Sys2Proof.Machine.execInputLevelChange pin high s
  | .boostDebounceExpiry => Sys2Proof.Machine.execBoostDebounceExpiry s
  | .awayDebounceExpiry => Sys2Proof.Machine.execAwayDebounceExpiry s
  | .combustionDebounceExpiry => Sys2Proof.Machine.execCombustionDebounceExpiry s
  | .countdownTick => Sys2Proof.Machine.execCountdownTick s
  | .remainingTimeExpiry => Sys2Proof.Machine.execRemainingTimeExpiry s
  | .climateTimerExpiry => Sys2Proof.Machine.execClimateTimerExpiry s
  | .frostEvaluation => Sys2Proof.Machine.execFrostEvaluation s
  | .fullPowerTimerExpiry => Sys2Proof.Machine.execFullPowerTimerExpiry s
  | .holdoffExpiry => Sys2Proof.Machine.execHoldoffExpiry s
  | .thawTimerExpiry => Sys2Proof.Machine.execThawTimerExpiry s
  | .recoverTimerExpiry => Sys2Proof.Machine.execRecoverTimerExpiry s
  | .timedThawExpiry => Sys2Proof.Machine.execTimedThawExpiry s
  | .icePossibleHoldExpiry => Sys2Proof.Machine.execIcePossibleHoldExpiry s
  | .heatOnTimeExpiry => Sys2Proof.Machine.execHeatOnTimeExpiry s
  | .cutoutDebounceExpiry => Sys2Proof.Machine.execCutoutDebounceExpiry s
  | .volumeRollover path => Sys2Proof.Machine.execVolumeRollover path s
  | .runHourRollover path => Sys2Proof.Machine.execRunHourRollover path s
  | .dueHoursExpiry path => Sys2Proof.Machine.execDueHoursExpiry path s
  | .blockedTimerExpiry path => Sys2Proof.Machine.execBlockedTimerExpiry path s
  | .captureQualificationExpiry path => Sys2Proof.Machine.execCaptureQualificationExpiry path s
  | .filterDebounceExpiry => Sys2Proof.Machine.execFilterDebounceExpiry s
  | .filterHoldExpiry => Sys2Proof.Machine.execFilterHoldExpiry s
  | .saveStatusPoll status => Sys2Proof.Machine.execSaveStatusPoll status s
  | .saveByteTimeout => Sys2Proof.Machine.execSaveByteTimeout s
  | .saveByteReadback value => Sys2Proof.Machine.execSaveByteReadback value s
  | .humidityEvaluation => Sys2Proof.Machine.execHumidityEvaluation s
  | .idleSpaceReached => Sys2Proof.Machine.execIdleSpaceReached s
  | .contentionBegin contention => Sys2Proof.Machine.execContentionBegin contention s
  | .contentionLost bit => Sys2Proof.Machine.execContentionLost bit s
  | .bitError => Sys2Proof.Machine.execBitError s
  | .frameSuccess => Sys2Proof.Machine.execFrameSuccess s
  | .stuffingViolation sender kind => Sys2Proof.Machine.execStuffingViolation sender kind s
  | .crcError sender kind => Sys2Proof.Machine.execCrcError sender kind s
  | .formError sender kind => Sys2Proof.Machine.execFormError sender kind s
  | .frameTimeout sender kind => Sys2Proof.Machine.execFrameTimeout sender kind s
  | .stuck => Sys2Proof.Machine.execStuck s
  | .stateFrame sender payload => Sys2Proof.Machine.execStateFrame sender payload s
  | .intentFrame sender payload => Sys2Proof.Machine.execIntentFrame sender payload s
  | .endFrame sender payload => Sys2Proof.Machine.execEndFrame sender payload s
  | .replyFrame sender payload => Sys2Proof.Machine.execReplyFrame sender payload s
  | .queryStatus sender payload => Sys2Proof.Machine.execQueryStatus sender payload s
  | .queryFilters sender payload => Sys2Proof.Machine.execQueryFilters sender payload s
  | .queryPeers sender payload => Sys2Proof.Machine.execQueryPeers sender payload s
  | .queryModes sender payload => Sys2Proof.Machine.execQueryModes sender payload s
  | .queryFaults sender payload => Sys2Proof.Machine.execQueryFaults sender payload s
  | .queryLine sender payload => Sys2Proof.Machine.execQueryLine sender payload s
  | .clearLineCapture sender payload => Sys2Proof.Machine.execClearLineCapture sender payload s
  | .clearFaultCounts sender payload => Sys2Proof.Machine.execClearFaultCounts sender payload s
  | .clearFanRetry sender payload => Sys2Proof.Machine.execClearFanRetry sender payload s
  | .quietTimerExpiry => Sys2Proof.Machine.execQuietTimerExpiry s
  | .listenInExpiry => Sys2Proof.Machine.execListenInExpiry s
  | .statePeriodExpiry => Sys2Proof.Machine.execStatePeriodExpiry s
  | .ageingTick => Sys2Proof.Machine.execAgeingTick s
  | .peerEntryExpiry position => Sys2Proof.Machine.execPeerEntryExpiry position s
  | .plumeHoldExpiry => Sys2Proof.Machine.execPlumeHoldExpiry s
  | .lampFlashStep lamp => Sys2Proof.Machine.execLampFlashStep lamp s
  | .powerLoss => Sys2Proof.Machine.execPowerLoss s
  | .dominantSampleInWaiting => Sys2Proof.Machine.execDominantSampleInWaiting s

end Sys2Proof.Machine
end

