-- ==== Sys2Proof/Machine/Step.lean ====
section
/-! DEFINITION. One step of the block: the command at the front of the queue, or one bit time where none is waiting. -/

namespace Sys2Proof.Machine

/-- The step (log 1): the command at the front of the queue is run whole on the state with the queue's rest; with an empty
queue one bit time passes. -/
def step (s : State) : Host.Outcome State Fault Refusal :=
  match s.pending with
  | [] => .next (passTime (bitTimes 1) s)
  | c :: rest => exec c { s with pending := rest }

/-- `s` with the command that a word spells at the front of its queue; `s` itself where the word spells none. -/
def State.withFetchWord (s : State) (nbits w : Nat) : State :=
  match decodeTableWord nbits w with
  | none => s
  | some c => { s with pending := c :: s.pending }

end Sys2Proof.Machine
end

