-- ==== Sys2Proof/Safety.lean ====
section
/-! DEFINITION. The device laws the manual names, as predicates on a state, the invariants that carry them from step to step,
and what single rules leave, as predicates on the states before and after a command. -/

namespace Sys2Proof.Safety
open Sys2Proof.Machine

/-- The port is still in its start load. -/
def loading (s : State) : Prop := s.mpt.state = .loading

/-- The balance law of R26. -/
structure BalanceLaw (s : State) : Prop where
  gap : s.frg.state ≠ .thawU →
    s.fdr.fans.sup.commanded ≤ s.fdr.fans.ext.commanded + s.params.lim ∧
      s.fdr.fans.ext.commanded ≤ s.fdr.fans.sup.commanded + s.params.lim
  combustion : combustionFlag s = true → s.fdr.fans.ext.commanded ≤ s.fdr.fans.sup.commanded

/-- The part of the unbalanced-thaw law of R79 that a state shows: no COMBUSTION entry stands in THAW_U. -/
def UnbalancedThawLaw (s : State) : Prop := s.frg.state = .thawU → combustionFlag s = false

/-- What carries the balance law from step to step: with it, the unbalanced-thaw law, and fans that stand still outside a
thaw through the start load (R40, R87). -/
structure BalanceInv (s : State) : Prop where
  law : BalanceLaw s
  thaw : UnbalancedThawLaw s
  start : loading s →
    s.fdr.fans.sup.commanded = 0 ∧ s.fdr.fans.ext.commanded = 0 ∧ s.frg.state ≠ .thawU

/-- The duty law of R31 for one fan. -/
def DutyLaw (p : Params) (r : FanRecord) : Prop :=
  (r.commanded = 0 → r.duty = 0) ∧ (r.commanded ≠ 0 → p.dutyMin ≤ r.duty ∧ r.duty ≤ 1000)

/-- What carries the duty law: a duty_min within its range (R31), and fans that stand still through the start load. -/
structure DutyInv (s : State) : Prop where
  law : ∀ f, DutyLaw s.params (fan s f)
  range : 0 < s.params.dutyMin ∧ s.params.dutyMin ≤ 1000
  start : loading s → ∀ f, (fan s f).commanded = 0

/-- A frost state in which the preheater may heat (R70). -/
def heatingState : FrostState → Bool
  | .clear => false
  | .watch => false
  | .preheat => true
  | .reduce => true
  | .intent => true
  | .thawU => false
  | .thawB => true
  | .recover => false
  | .fallback => true

/-- The preheater law of R70. -/
def PreheaterLaw (s : State) : Prop :=
  (s.frg.power ≠ 0 ∨ s.frg.heatOn = true) → preheaterTerms s = true ∧ heatingState s.frg.state = true

/-- What carries the preheater law: availability means its terms (R68), power means availability, and HEAT means power. -/
structure PreheaterInv (s : State) : Prop where
  terms : s.frg.available = true → preheaterTerms s = true
  power : s.frg.power ≠ 0 → s.frg.available = true ∧ heatingState s.frg.state = true
  heat : s.frg.heatOn = true → s.frg.power ≠ 0
  start : loading s → s.frg.available = false

/-- The entries stand in non-increasing priority from the top (R43). -/
def ordered : List ModeEntry → Prop
  | [] => True
  | e :: rest => (∀ x ∈ rest, priority x.origin ≤ priority e.origin) ∧ ordered rest

/-- The mode stack's law (R43): BASE at the bottom, at most one entry per origin, never HUM_BOOST and HUM_DRY together,
ordered by priority. -/
structure StackLaw (m : ModeStack) : Prop where
  base : m.base.origin = .base
  above : ∀ e ∈ m.above, e.origin ≠ .base
  once : (m.above.map ModeEntry.origin).Nodup
  exclusive : ¬ (hasEntry m .humBoost = true ∧ hasEntry m .humDry = true)
  sorted : ordered m.above

/-- The frost-load law of R64. -/
def LoadLaw (s : State) : Prop := s.frg.load ≤ 65535

/-- The counter law of R114. -/
def CounterLaw (s : State) : Prop := ∀ i : Fin 4, s.hev.counters[i] ≤ s.params.rules[i].n

/-- What carries the counter law: counters that stand at 0 through the start load (R118). -/
structure CounterInv (s : State) : Prop where
  law : CounterLaw s
  start : loading s → ∀ i : Fin 4, s.hev.counters[i] = 0

/-- The positions of the peer entries rise strictly: at most one entry per position (R142). -/
def rising : List PeerEntry → Prop
  | [] => True
  | e :: rest => (∀ x ∈ rest, e.position.toNat < x.position.toNat) ∧ rising rest

/-- The peer table's law (R142). -/
structure PeerLaw (s : State) : Prop where
  once : rising s.ptb.entries
  accepted : ∀ e ∈ s.ptb.entries, acceptedPosition s.params e.position = true
  notOwn : ∀ e ∈ s.ptb.entries, s.params.position ≠ some e.position
  noTool : ∀ e ∈ s.ptb.entries, e.position ≠ 15

/-- What carries the peer table's law: acceptance sets without position 15 (R140), and a table that is empty through the
start load (R153). -/
structure PeerInv (s : State) : Prop where
  law : PeerLaw s
  sets : inSet s.params.adj 15 = false ∧ inSet s.params.ref 15 = false ∧ inSet s.params.plume 15 = false
  start : loading s → s.ptb.entries = []

/-- The silent-state law of R133: a frame is in contention or being sent only in line state ACTIVE. -/
def SilentLaw (s : State) : Prop := s.lnc.shifter.isSome = true → s.lnc.state = .active

/-- What carries the silent-state law: a line controller that is OFF through the start load (R133). -/
structure SilentInv (s : State) : Prop where
  law : SilentLaw s
  start : loading s → s.lnc.state = .off

/-- The canonical form of the serial memory's contents. -/
def MemoryLaw (s : State) : Prop := Memory.wf s.memory = true

/-! ### Who may change what -/

/-- The commands that end or continue a byte write of a save, and those of the supply: all that may change the serial
memory (R170, R171). -/
def writesMemory : Instr → Bool
  | .saveStatusPoll _ | .saveByteTimeout | .saveByteReadback _ | .powerOn | .powerLoss => true
  | _ => false

/-- The commands at which the start load may complete (R166). -/
def mayComplete : Instr → Bool
  | .settlingWaitExpiry _ _ | .memoryBusyPoll _ _ | .memoryBusyTimeout _ | .startLoadCompletion _ => true
  | _ => false

/-- The commands of the supply. -/
def ofSupply : Instr → Bool
  | .powerOn | .powerLoss => true
  | _ => false

/-- The commands that may change the entries of the mode stack (chapter 3). -/
def movesStack : Instr → Bool
  | .boostDebounceExpiry | .awayDebounceExpiry | .combustionDebounceExpiry | .countdownTick | .remainingTimeExpiry
  | .humidityEvaluation => true
  | i => ofSupply i || mayComplete i

/-- The commands that may change a channel's state, value, reason or good-run count (chapter 1). -/
def samplesChannels : Instr → Bool
  | .conversionComplete _ _ | .holdTimerExpiry _ => true
  | i => ofSupply i

/-- The commands that may change the peer entries (chapter 8). -/
def changesPeers : Instr → Bool
  | .stateFrame _ _ | .intentFrame _ _ | .endFrame _ _ | .ageingTick | .peerEntryExpiry _ => true
  | i => ofSupply i

/-- The frames of other stations (R127). -/
def ofOtherStation : Instr → Bool
  | .stateFrame _ _ | .intentFrame _ _ | .endFrame _ _ | .replyFrame _ _ => true
  | .queryStatus _ _ | .queryFilters _ _ | .queryPeers _ _ | .queryModes _ _ | .queryFaults _ _ | .queryLine _ _ => true
  | .clearLineCapture _ _ | .clearFaultCounts _ _ | .clearFanRetry _ _ => true
  | _ => false

/-- The commands that may change the last sender: a correct frame, received or sent, and the start (R124). -/
def movesLastSender : Instr → Bool
  | .frameSuccess => true
  | i => ofOtherStation i || ofSupply i || mayComplete i

/-- The commands that may change a fan's flow, duty or state: the fan drive's own, and those that may bring the guard of R26
or a cleared retry (chapter 2, R36, R79, R136). -/
def movesFans : Instr → Bool
  | .fanEvaluation | .settleTimerExpiry _ | .stallTimerExpiry _ | .retryPauseExpiry _ => true
  | .combustionDebounceExpiry | .frostEvaluation | .thawTimerExpiry => true
  | i => ofOtherStation i || ofSupply i || mayComplete i

/-- The commands that may change a filter record's counts or reference (R92, R101, R103). -/
def countsFilters : Instr → Bool
  | .fanEvaluation | .volumeRollover _ | .runHourRollover _ | .dueHoursExpiry _ => true
  | .captureQualificationExpiry _ | .filterHoldExpiry => true
  | i => ofSupply i || mayComplete i

/-- The commands that may change the frost load (R64, R78, R82, R83). -/
def movesLoad : Instr → Bool
  | .frostEvaluation | .thawTimerExpiry | .timedThawExpiry | .conversionComplete _ _ => true
  | i => ofSupply i

/-- The events of a discarded frame (R126). -/
def discardsFrame : Instr → Bool
  | .stuffingViolation _ _ | .crcError _ _ | .formError _ _ | .frameTimeout _ _ => true
  | _ => false

/-- The commands that may change the line state, the failure count, the line fault capture or the duplicate flag
(chapter 7). -/
def movesLine : Instr → Bool
  | .contentionBegin _ | .bitError | .frameSuccess | .stuck | .quietTimerExpiry | .listenInExpiry => true
  | i => discardsFrame i || ofOtherStation i || ofSupply i || mayComplete i

/-- The commands that may change the plume flag, the terrace references or the effective outdoor values (R147 to R152). -/
def movesOutdoor : Instr → Bool
  | .plumeHoldExpiry => true
  | i => changesPeers i || samplesChannels i || mayComplete i

/-! ### Words the statements use -/

/-- One flow of a pair. -/
def flowOf (p : FlowPair) : Fan → Nat
  | .sup => p.supply
  | .ext => p.extract

def otherFan : Fan → Fan
  | .sup => .ext
  | .ext => .sup

/-- The start load has completed without a usable configuration and without a memory (R166 to R168, R134). -/
structure StartedWithoutMemory (t : State) : Prop where
  port : t.mpt.state = .idle
  config : t.mpt.configResult = .noMemory
  records : t.mpt.recordResult = .notRead
  place : t.mpt.locationKnown = false
  params : t.params = defaultParams
  defaultsMarked : (faultRecord t .configDefaults).active = true
  lostMarked : (faultRecord t .recordsLost).active = true
  line : t.lnc.state = .listen
  noListenIn : t.lnc.listenIn = none

/-- The sender of a frame of another station. -/
def frameSender : Instr → Option Position
  | .stateFrame p _ | .intentFrame p _ | .endFrame p _ | .replyFrame p _ => some p
  | .queryStatus p _ | .queryFilters p _ | .queryPeers p _ | .queryModes p _ | .queryFaults p _ | .queryLine p _ => some p
  | .clearLineCapture p _ | .clearFaultCounts p _ | .clearFanRetry p _ => some p
  | _ => none

/-- What a sender has found, at a command of the end of a sending (R125, R131). -/
def sendVerdictOf : Instr → Option SendVerdict
  | .contentionLost bit => some (.lost bit)
  | .bitError => some .bitError
  | .frameSuccess => some .success
  | _ => none

/-- The end of a reception that a command tells of (R126 to R128). -/
def verdictOf : Instr → Option Verdict
  | .stuffingViolation sender kind => some (.violation sender kind)
  | .crcError sender kind => some (.crcError sender kind)
  | .formError sender kind => some (.formError sender kind)
  | .frameTimeout sender kind => some (.timeout sender kind)
  | .stuck => some .stuck
  | .stateFrame p l => some (.correct .state p l)
  | .intentFrame p l => some (.correct .intent p l)
  | .endFrame p l => some (.correct .endThaw p l)
  | .replyFrame p l => some (.correct .reply p l)
  | .queryStatus p l | .queryFilters p l | .queryPeers p l | .queryModes p l | .queryFaults p l | .queryLine p l =>
    some (.correct .query p l)
  | .clearLineCapture p l | .clearFaultCounts p l | .clearFanRetry p l => some (.correct .clear p l)
  | _ => none

/-- The QUERY of a space. -/
def queryOf (space : Space) (sender : Position) (payload : List Byte) : Instr :=
  match space with
  | .status => .queryStatus sender payload
  | .filters => .queryFilters sender payload
  | .peers => .queryPeers sender payload
  | .modes => .queryModes sender payload
  | .faults => .queryFaults sender payload
  | .line => .queryLine sender payload

/-- The state a correct frame of another station leaves before it is handed on (R127). -/
def heardState (sender : Position) (s : State) : State :=
  markInactive .lineErrors (setLine { toWaiting s.lnc with lastSender := sender } s)

/-- What `comparison` must do (R120, R125, R131), where a station sends a frame: with every bit of it read back as sent, a
success at its seventh end bit. Otherwise the first bit not read as sent decides: a lost contention where it is a bit of the
arbitration field that was sent recessive, and a BIT_ERROR anywhere else. -/
def ComparesBitByBit : Prop :=
  ∀ (m : LineController) (f : ShiftedFrame) (e : Nat) (sent onLine : List LineBit), m.shifter = some f →
    m.frameTime = some e → sent = frameOnLine f → onLine = m.read ++ bitsWith sent (sent.length - m.read.length) m →
    ((∀ i, i < sent.length → onLine[i]? = sent[i]?) → comparison m = some (bitTimes sent.length - e, .success)) ∧
    ∀ i, i < sent.length → (∀ j, j < i → onLine[j]? = sent[j]?) → onLine[i]? ≠ sent[i]? →
      (∀ bit : Fin 9, sent[i]? = some true → i = (stuff (false :: (arbitrationBits f).take bit.val)).length →
        comparison m = some (bitTimes (i + 1) - e, .lost bit)) ∧
      (sent[i]? = some false ∨ (∀ bit : Fin 9, i ≠ (stuff (false :: (arbitrationBits f).take bit.val)).length) →
        comparison m = some (bitTimes (i + 1) - e, .bitError))

/-- What `place` must do (R42, R43): the priorities of the origins, and a new entry directly above every entry of lower or
equal priority and directly below every entry of higher priority. -/
def PlacesByPriority : Prop :=
  (priority .base = 0 ∧ priority .away = 1 ∧ priority .humDry = 1 ∧ priority .humBoost = 1 ∧ priority .button = 2 ∧
    priority .combustion = 3) ∧
  ∀ (e : ModeEntry) (l : List ModeEntry), ordered l → ∃ above below, l = above ++ below ∧
    place e l = above ++ e :: below ∧ (∀ x ∈ above, priority e.origin < priority x.origin) ∧
    ∀ x ∈ below, priority x.origin ≤ priority e.origin

/-- What `lowerMedian` must do (R149): the value at place (count − 1) / 2 of the values in ascending order. -/
def TakesTheLowerMedian : Prop :=
  ∀ l : List Int, ∃ sorted : List Int, sorted.Perm l ∧ sorted.Pairwise (· ≤ ·) ∧
    lowerMedian l = sorted[(l.length - 1) / 2]?

/-- What `entryPrecedes` must do (R155): the greater urgency has precedence, and the lower position of equal ones. -/
def PrecedesByUrgencyThenPosition : Prop :=
  ∀ (s : State) (e : PeerEntry), entryPrecedes s e = true ↔
    ∃ theirs own position, e.urgency = some theirs ∧ s.frg.urgency = some own ∧ s.params.position = some position ∧
      (own < theirs ∨ (own = theirs ∧ e.position.toNat < position.toNat))

/-! ### What the frost guard's rules leave -/

/-- The ice-possible cause (R65). -/
def IceCause (t : State) : Prop :=
  t.frg.state ∈ [FrostState.preheat, .reduce, .intent, .thawU, .thawB, .recover, .fallback] ∨
    (t.frg.state = .watch ∧ ∃ v, channelValue t .tEha = some v ∧ v < t.params.onset + 30)

/-- From `s` to `t` the ice-possible cause has been assessed (R65, R66): where it holds, the flag is set and its hold stopped,
with the ice index at 0 where the flag was clear; where it does not, the hold of a set flag starts from 0 or runs on. -/
structure IceAssessed (s t : State) : Prop where
  holds : IceCause t → t.frg.icePossible = true ∧ t.frg.iceHold = none
  rises : IceCause t → s.frg.icePossible = false → t.frg.iceIndex = 0
  ceases : ¬ IceCause t → s.frg.icePossible = true → t.frg.icePossible = true ∧ t.frg.iceHold = some (s.frg.iceHold.getD 0)
  clear : ¬ IceCause t → s.frg.icePossible = false → t.frg.icePossible = false

/-- What the intent check finds (R156): the reason of the first condition that holds, or none. -/
structure IntentCheckFinds (s : State) (found : Option Denial) : Prop where
  combustion : combustionFlag s = true → found = some .combustion
  line : combustionFlag s = false → s.lnc.state ≠ .active → found = some .line
  peerThaw : combustionFlag s = false → s.lnc.state = .active →
    (∃ x ∈ s.ptb.entries, inSet s.params.adj x.position = true ∧ x.announcement = .thawU) → found = some .peerThaw
  peerPrecedence : combustionFlag s = false → s.lnc.state = .active →
    (∀ x ∈ s.ptb.entries, inSet s.params.adj x.position = true → x.announcement ≠ .thawU) →
    (∃ x ∈ s.ptb.entries, inSet s.params.adj x.position = true ∧ x.announcement = .intent ∧ entryPrecedes s x = true) →
    found = some .peerPrecedence
  passes : combustionFlag s = false → s.lnc.state = .active →
    (∀ x ∈ s.ptb.entries, inSet s.params.adj x.position = true →
      x.announcement ≠ .thawU ∧ (x.announcement = .intent → entryPrecedes s x = false)) → found = none

/-- The guard has entered INTENT with this urgency and made the check at once (R75, R157, R159). -/
structure EntersIntent (s t : State) (urgency : Nat) : Prop where
  frozen : t.frg.urgency = some urgency
  frame : s.lnc.state ≠ .off → t.lnc.urgent = some ⟨.intent, [BitVec.ofNat 8 urgency]⟩
  ice : IceAssessed s t
  check : ∃ found, IntentCheckFinds { s with frg := { s.frg with urgency := some urgency } } found ∧
    (found = none → t.frg.state = .intent ∧ t.frg.holdoff = some 0 ∧ t.frg.power = s.frg.power ∧
      t.frg.denial = s.frg.denial ∧ t.frg.thaw = s.frg.thaw) ∧
    ∀ reason, found = some reason → t.frg.state = .thawB ∧ t.frg.denial = some reason ∧ t.frg.holdoff = none ∧
      t.frg.thaw = some 0 ∧ t.frg.power = (if s.frg.available then 100 else 0) ∧ t.lnc.statePeriod = some 0 ∧
      (s.lnc.state ≠ .off → t.lnc.stateSlot = some ⟨.state, stateBytes (stateContent t)⟩)

/-- The guard has entered FALLBACK (R81): timers, urgency, and the power by the FALLBACK row of R69. The preheater may be
lost at the same event where THAW_U is left (R26, R68). -/
structure FallbackEntered (s t : State) : Prop where
  state : t.frg.state = .fallback
  timers : t.frg.holdoff = none ∧ t.frg.recover = none ∧ t.frg.fullPower = none
  cycle : t.frg.fallbackCycle = some 0 ∧ t.frg.timedThaw = none
  urgency : t.frg.urgency = none
  available : s.frg.state ≠ .thawU → t.frg.available = s.frg.available
  power : ∀ v, s.odr.tOut = some v →
    t.frg.power = if s.frg.available = true ∧ t.frg.available = true ∧ v < -50 then 50 else 0
  heat : t.frg.heatOn = if t.frg.power = 0 then false else s.frg.heatOn
  ice : IceAssessed s t

/-- FALLBACK entered from a state that is no thaw (R75, R81): the load is kept, and an INTENT is withdrawn by an END frame. -/
structure EntersFallback (s t : State) : Prop where
  entered : FallbackEntered s t
  load : t.frg.load = s.frg.load
  withdrawn : s.frg.state = .intent → s.lnc.state ≠ .off → t.lnc.urgent = some ⟨.endThaw, []⟩
  others : s.frg.state ≠ .intent → t.lnc.urgent = s.lnc.urgent

/-- FALLBACK left for WATCH (R83), with the end of a timed thaw in progress. -/
structure LeavesFallback (s t : State) : Prop where
  state : t.frg.state = .watch
  load : t.frg.load = 0
  timers : t.frg.fallbackCycle = none ∧ t.frg.timedThaw = none
  urgency : t.frg.urgency = none
  power : t.frg.power = 0 ∧ t.frg.heatOn = false
  thawing : s.frg.timedThaw ≠ none → s.lnc.state ≠ .off → t.lnc.urgent = some ⟨.endThaw, []⟩
  others : s.frg.timedThaw = none → t.lnc.urgent = s.lnc.urgent
  ice : IceAssessed s t

/-- A thaw's end (R78): END staged, RECOVER or FALLBACK entered, and on leaving THAW_U the guard of R26 on the flows. -/
structure ThawEnds (s t : State) : Prop where
  thaw : t.frg.thaw = none
  load : t.frg.load = 0
  urgency : t.frg.urgency = none
  endFrame : s.lnc.state ≠ .off → t.lnc.urgent = some ⟨.endThaw, []⟩
  denial : t.frg.denial = s.frg.denial
  recover : channelValue s .tEha ≠ none → t.frg.state = .recover ∧ t.frg.recover = some 0 ∧ t.frg.power = 0 ∧
    t.frg.heatOn = false ∧ IceAssessed s t
  fallback : channelValue s .tEha = none → FallbackEntered s t
  guarded : s.frg.state = .thawU → ∀ f,
    (fan t f).commanded = flowOf (stageS8 t ⟨(fan s .sup).commanded, (fan s .ext).commanded⟩) f
  standing : s.frg.state = .thawB → ∀ f, (fan t f).commanded = (fan s f).commanded

/-! ### What the outdoor resolver's rules leave -/

/-- The effective outdoor values and their tags are those of R151 for the channels, the plume flag and the references as they
stand. -/
structure OutdoorInEffect (t : State) : Prop where
  ownT : ∀ v, t.odr.plume = false → channelValue t .tOda = some v → t.odr.tOut = some v ∧ t.odr.tTag = some .own
  terraceT : ∀ v, t.odr.plume = true ∨ channelValue t .tOda = none → t.odr.tRef = some v →
    t.odr.tOut = some v ∧ t.odr.tTag = some .terrace
  constantT : t.odr.plume = true ∨ channelValue t .tOda = none → t.odr.tRef = none →
    t.odr.tOut = some (-200) ∧ t.odr.tTag = some .constant
  ownRH : ∀ v, t.odr.plume = false → channelValue t .rhOda = some v → t.odr.rhOut = some v ∧ t.odr.rhTag = some .own
  terraceRH : ∀ v, t.odr.plume = true ∨ channelValue t .rhOda = none → t.odr.rhRef = some v →
    t.odr.rhOut = some v ∧ t.odr.rhTag = some .terrace
  absentRH : t.odr.plume = true ∨ channelValue t .rhOda = none → t.odr.rhRef = none →
    t.odr.rhOut = none ∧ t.odr.rhTag = some .absent

/-! ### The lamps -/

/-- The lamps' patterns by their causes (R175). -/
def LampsByCause : Prop :=
  (∀ s : State,
    (boostingFlag s = true ↔ (topEntry s.mst).origin = .button ∨ (topEntry s.mst).origin = .humBoost) ∧
    ((∃ f, (filterRecord s f).state = .overdue ∨ (filterRecord s f).state = .blocked) → filterPattern s = .flash) ∧
    ((∀ f, (filterRecord s f).state ≠ .overdue ∧ (filterRecord s f).state ≠ .blocked) →
      ((∃ f, (filterRecord s f).state = .due) → filterPattern s = .steady) ∧
      ((∀ f, (filterRecord s f).state ≠ .due) → filterPattern s = .dark)) ∧
    (s.mpt.configResult ≠ .ok → faultPattern s = .doubleFlash) ∧
    (s.mpt.configResult = .ok → s.lnc.duplicate = true → faultPattern s = .tripleFlash) ∧
    (s.mpt.configResult = .ok → s.lnc.duplicate = false →
      ((∃ k, (faultRecord s k).active = true) → faultPattern s = .steady) ∧
      ((∀ k, (faultRecord s k).active = false) → faultPattern s = .dark))) ∧
  ∀ l : Lamp, (l.pattern = .dark → lampLit l = false) ∧ (l.pattern = .steady → lampLit l = true)

/-- Every lamp shows its cause (R175). -/
def LampsFollow (t : State) : Prop :=
  t.srf.boostLamp = boostingFlag t ∧ t.srf.filterLamp.pattern = filterPattern t ∧
    t.srf.faultLamp.pattern = faultPattern t

/-! ### The fan drive -/

/-- A calibration table in order (R27). -/
def CalibrationOrdered (table : Calibration) : Prop :=
  ∀ i : Fin 4, table[i.castSucc].q < table[i.succ].q ∧ table[i.castSucc].n ≤ table[i.succ].n

/-- `n` is the base speed of a flow `q` (R28). -/
structure BaseSpeedIs (table : Calibration) (q n : Nat) : Prop where
  origin : q < table[(0 : Fin 5)].q → n = table[(0 : Fin 5)].n * q / table[(0 : Fin 5)].q
  between : ∀ i : Fin 4, table[i.castSucc].q ≤ q → q ≤ table[i.succ].q →
    n = table[i.castSucc].n
      + (q - table[i.castSucc].q) * (table[i.succ].n - table[i.castSucc].n) / (table[i.succ].q - table[i.castSucc].q)
  above : table[(4 : Fin 5)].q < q → n = table[(4 : Fin 5)].n

/-- The speed target and the shortfall test are those of R28 to R30. -/
def SpeedsFollowTheTable : Prop :=
  ∀ (s : State) (f : Fan) (q loading n : Nat) (table : Calibration),
    table = calibration s.params f → CalibrationOrdered table →
    loading = (if (filterRecord s f).referenced = false then 0
      else match f with
        | .sup => (filterRecord s .sup).index
        | .ext => s.flm.lx) →
    BaseSpeedIs table q n →
    speedTarget s f q = min (n * (256 + loading) / 256) s.params.nMax ∧
    (shortfallTest s f q = true ↔ table[(4 : Fin 5)].q < q ∨ s.params.nMax < n * (256 + loading) / 256)

/-- The stages of the resolution in their order, and S1 (R17, R18, R55). -/
def ResolvesByStages : Prop :=
  ∀ s : State, resolve s = stageS6 s (stageS5 s (stageS4 s (stageS3 s (stageS2 s (stageS1 s))))) ∧
    ((topEntry s.mst).origin = .combustion → stageS1 s = s.params.combustion[(topEntry s.mst).level]) ∧
    ((topEntry s.mst).origin ≠ .combustion →
      (s.mst.climate = .mild → stageS1 s = s.params.mild[(topEntry s.mst).level]) ∧
      (s.mst.climate = .normal → stageS1 s = s.params.normal[(topEntry s.mst).level]) ∧
      (s.mst.climate = .cold → stageS1 s = s.params.cold[(topEntry s.mst).level]))

/-- The settling condition of R33. -/
def Settles (r : FanRecord) : Prop :=
  r.commanded = r.target ∧ r.measured ≤ r.speedTarget + r.speedTarget / 16 ∧
    r.speedTarget ≤ r.measured + r.speedTarget / 16

/-- A fan's state after an evaluation at which neither fan enters FAULT (R33, R34), from its record `r` before it. -/
structure FanStateFollows (p : Params) (r t : FanRecord) : Prop where
  failed : r.state = .fault → t.state = .fault ∧ t.settle = r.settle ∧ t.stall = r.stall ∧ t.retryCount = r.retryCount
  stopped : r.state ≠ .fault → t.commanded = 0 → t.state = .off ∧ t.settle = 0 ∧ t.stall = 0 ∧ t.retryCount = r.retryCount
  started : r.state = .off → t.commanded ≠ 0 → t.state = .running ∧ t.settle = 0 ∧ t.retryCount = r.retryCount
  settling : r.state = .running ∨ r.state = .settled → t.commanded ≠ 0 → Settles t →
    t.settle = min 20 (r.settle + 1) ∧
    t.state = (if r.state = .settled ∨ 20 ≤ r.settle + 1 then .settled else .running) ∧
    t.retryCount = (if r.state = .running ∧ 20 ≤ r.settle + 1 then 0 else r.retryCount)
  unsettled : r.state = .running ∨ r.state = .settled → t.commanded ≠ 0 → ¬ Settles t →
    t.state = .running ∧ t.settle = 0 ∧ t.retryCount = r.retryCount
  stalling : r.state ≠ .fault → t.commanded ≠ 0 →
    t.stall = if 950 ≤ t.duty ∧ t.measured < p.nStall then r.stall + 1 else 0

/-- A fan with this flow and duty at an evaluation enters FAULT at it (R34). -/
def StallsOut (p : Params) (r : FanRecord) (flow duty : Nat) : Prop :=
  r.state ≠ .fault ∧ flow ≠ 0 ∧ 950 ≤ duty ∧ r.measured < p.nStall ∧ 2 ^ p.stallK - 1 ≤ r.stall + 1

/-- The parameters of a fixed range (configuration table, chapter 10): byte in the image (R177), lowest, highest. -/
def fixedRanges : List (Nat × Int × Int) :=
  [(11, 2, 6), (13, 300, 1000), (15, 40, 300), (21, 1, 200), (23, 64, 255), (25, 40, 300), (27, 40, 600),
   (69, 1000, 4000), (71, 50, 500), (73, 1, 255), (75, 60, 1000), (77, 3, 6), (79, 0, 4), (81, 0, 4), (83, 0, 4)] ++
  [(85, 5, 240), (87, 1, 60), (169, -50, 50), (171, 1, 500), (173, 50, 8000), (177, -200, 200), (179, 4, 255),
   (183, 0, 300), (185, 1, 10), (189, 50, 600), (191, 16, 254), (195, 100, 20000)]

/-- The range step of R167: every range and constraint of the configuration table, at the bytes of R177. -/
structure ImageInRange (img : List Byte) : Prop where
  fixed : ∀ row ∈ fixedRanges, row.2.1 ≤ imageSigned img row.1 ∧ imageSigned img row.1 ≤ row.2.2
  position : (imageByte img 4).toNat ≤ 14
  sets : ∀ i ∈ [5, 7, 9], (imageWord img i).testBit 15 = false ∧
    (imageWord img i).testBit (imageByte img 4).toNat = false
  qmax : imageSigned img 15 ≤ imageSigned img 17 ∧ imageSigned img 17 ≤ 1500
  lim : 0 ≤ imageSigned img 19 ∧ imageSigned img 19 ≤ (imageSigned img 15).tdiv 2
  points : ∀ i ∈ [29, 49], ∀ k < 5, (1 ≤ imageSigned img (i + 4 * k) ∧ imageSigned img (i + 4 * k) ≤ 1500) ∧
    0 ≤ imageSigned img (i + 4 * k + 2) ∧ imageSigned img (i + 4 * k + 2) ≤ 4000
  order : ∀ i ∈ [29, 49], ∀ k < 4, imageSigned img (i + 4 * k) < imageSigned img (i + 4 * k + 4) ∧
    imageSigned img (i + 4 * k + 2) ≤ imageSigned img (i + 4 * k + 6)
  levels : ∀ i ∈ [89, 109, 129, 149], ∀ k < 5,
    (0 ≤ imageSigned img (i + 4 * k) ∧ imageSigned img (i + 4 * k) ≤ imageSigned img 17) ∧
    0 ≤ imageSigned img (i + 4 * k + 2) ∧ imageSigned img (i + 4 * k + 2) ≤ imageSigned img 17
  combustion : ∀ k < 5, imageSigned img (149 + 4 * k + 2) ≤ imageSigned img (149 + 4 * k)
  l3 : imageSigned img 173 + 1 ≤ imageWord img 175
  iClear : 0 ≤ imageSigned img 181 ∧ imageSigned img 181 ≤ imageSigned img 179 - 1
  tThawMax : imageSigned img 185 + 1 ≤ imageSigned img 187 ∧ imageSigned img 187 ≤ 60
  qMeasMin : imageSigned img 189 ≤ imageSigned img 17
  blockIdx : imageSigned img 191 + 1 ≤ imageSigned img 193 ∧ imageSigned img 193 ≤ 255
  dueVol : 1000 ≤ imageLong img 197 ∧ imageLong img 197 ≤ 8000000
  rules : ∀ i ∈ [201, 207, 213, 219], (imageByte img i).toNat ≤ 5 ∧ (imageByte img (i + 1)).toNat ≤ 5 ∧
    (-1000 ≤ imageSigned img (i + 2) ∧ imageSigned img (i + 2) ≤ 1000) ∧ (imageByte img (i + 4)).toNat ≤ 7 ∧
    1 ≤ (imageByte img (i + 5)).toNat ∧ (imageByte img (i + 5)).toNat ≤ 63

/-- The parameters are those of the image, at the bytes of R177. -/
structure ImageTakenUp (img : List Byte) (p : Params) : Prop where
  position : p.position = some (BitVec.ofNat 4 (imageByte img 4).toNat)
  sets : [p.adj, p.ref, p.plume] = [5, 7, 9].map fun i => BitVec.ofNat 16 (imageWord img i)
  naturals : [p.peerExp, p.qminRun, p.qmax, p.lim, p.slew, p.kR, p.qThawB, p.qBlockCap, p.nMax, p.dutyMin, p.ki, p.nStall,
      p.stallK, p.boostTime, p.runOn, p.decay, p.l1, p.iThaw, p.iClear, p.tThawMin, p.tThawMax, p.qMeasMin, p.dueIdx,
      p.blockIdx, p.dueHours] =
    [11, 15, 17, 19, 21, 23, 25, 27, 69, 71, 73, 75, 77, 85, 87, 171, 173, 179, 181, 185, 187, 189, 191, 193, 195].map
      fun i => (imageSigned img i).toNat
  integers : [p.plumeRH, p.onset, p.tWatchOut, p.tThawEnd] = [13, 169, 177, 183].map (imageSigned img)
  levels : [p.baseLevel.val, p.combLevel.val, p.dryLevel.val] = [79, 81, 83].map fun i => (imageSigned img i).toNat
  l3 : p.l3 = imageWord img 175
  dueVol : p.dueVol = imageLong img 197
  tables : ∀ k : Fin 5, [p.calSupply, p.calExtract].map (fun t => (t[k].q, t[k].n)) = [29, 49].map fun i =>
    ((imageSigned img (i + 4 * k.val)).toNat, (imageSigned img (i + 4 * k.val + 2)).toNat)
  pairs : ∀ k : Fin 5, [p.mild, p.normal, p.cold, p.combustion].map (fun l => (l[k].supply, l[k].extract)) =
    [89, 109, 129, 149].map fun i =>
      ((imageSigned img (i + 4 * k.val)).toNat, (imageSigned img (i + 4 * k.val + 2)).toNat)
  operands : ∀ k : Fin 4, [p.rules[k].left, p.rules[k].right].map some =
    [201 + 6 * k.val, 202 + 6 * k.val].map fun i =>
      [Operand.rhEta, .rise, .tdEta, .tdOut, .tOut, .zero][(imageByte img i).toNat]?
  rules : ∀ k : Fin 4, p.rules[k].offset = imageSigned img (203 + 6 * k.val) ∧
    [p.rules[k].less, p.rules[k].equal, p.rules[k].greater] =
      [2, 1, 0].map (fun b => (imageByte img (205 + 6 * k.val)).getLsbD b) ∧
    p.rules[k].n = (imageByte img (206 + 6 * k.val)).toNat

/-- The record at byte `i` of the image passes the field tests of R168. -/
structure RecordInRange (p : Params) (img : List Byte) (i : Nat) : Prop where
  code : (imageByte img i).toNat ≤ 5
  dpRef : imageWord img (i + 1) = 0 ∨ (5 ≤ imageWord img (i + 1) ∧ imageWord img (i + 1) ≤ 1000)
  qRef : imageWord img (i + 3) = 0 ∨ (p.qMeasMin ≤ imageWord img (i + 3) ∧ imageWord img (i + 3) ≤ p.qmax)
  both : imageWord img (i + 1) = 0 ↔ imageWord img (i + 3) = 0
  unreferenced : (imageByte img i).toNat = 0 → imageWord img (i + 1) = 0 ∧ imageWord img (i + 11) = 0
  referenced : (imageByte img i).toNat ∈ [1, 2, 5] → imageWord img (i + 1) ≠ 0
  index : imageWord img (i + 1) = 0 → (imageByte img (i + 5)).toNat = 0
  hoursDue : imageWord img (i + 11) ≤ 720

/-- The record is the one at byte `i` of the image (R91, R177). -/
structure RecordTakenUp (img : List Byte) (i : Nat) (r : FilterRecord) : Prop where
  state : [FilterState.unreferenced, .clean, .loading, .due, .overdue, .blocked][(imageByte img i).toNat]? = some r.state
  dpRef : r.dpRef = if imageWord img (i + 1) = 0 then none else some (imageWord img (i + 1))
  qRef : r.qRef = if imageWord img (i + 3) = 0 then none else some (imageWord img (i + 3))
  index : r.index = (imageByte img (i + 5)).toNat
  runHours : r.runHours = imageWord img (i + 6)
  volume : r.volume = (imageByte img (i + 8)).toNat * 65536 + imageWord img (i + 9)
  hoursDue : r.hoursDue = imageWord img (i + 11)
  counts : r.runSeconds = 0 ∧ r.remainder = 0
  timers : r.blocked = none ∧ r.capture = none

/-- The fields of a record fit the places they are saved in (R177), and a reference is not 0 (R101). -/
structure RecordFits (r : FilterRecord) : Prop where
  dpRef : ∀ v, r.dpRef = some v → 0 < v ∧ v < 65536
  qRef : ∀ v, r.qRef = some v → 0 < v ∧ v < 65536
  counts : r.index < 256 ∧ r.runHours < 65536 ∧ r.volume < 16777216 ∧ r.hoursDue < 65536

/-- The record block of a save (R170, R177): both records and the sum byte, each record as a start load reads it back at its
place in the image. -/
def SavesBothRecords : Prop :=
  ∀ (r : PerFan FilterRecord) (img : List Byte), img = List.replicate 226 0 ++ recordBlock r →
    (recordBlock r).length = 27 ∧ byteSum (recordBlock r) = 0 ∧
    (RecordFits r.sup → RecordTakenUp img 226
      { r.sup with runSeconds := 0, remainder := 0, blocked := none, capture := none }) ∧
    (RecordFits r.ext → RecordTakenUp img 239
      { r.ext with runSeconds := 0, remainder := 0, blocked := none, capture := none })

/-- A loaded record after the hour and volume test of R91. -/
def afterLoadTest (p : Params) (r : FilterRecord) : FilterRecord :=
  if belowDue r.state = true ∧ (p.dueHours ≤ r.runHours ∨ p.dueVol ≤ r.volume) then { r with state := .due, hoursDue := 0 }
  else r

/-- Two records agree in what is saved (R91). -/
def SameSaved (a b : FilterRecord) : Prop :=
  a.state = b.state ∧ a.dpRef = b.dpRef ∧ a.qRef = b.qRef ∧ a.index = b.index ∧ a.runHours = b.runHours ∧
    a.volume = b.volume ∧ a.hoursDue = b.hoursDue

/-- No slot of the line controller holds a frame. -/
def slotsEmpty (m : LineController) : Prop := m.urgent = none ∧ m.reply = none ∧ m.stateSlot = none

/-! ### Layouts -/

/-- The bits of fields, each given by its width and its value, most significant bit first and one after another (R176). -/
def fieldBits (fields : List (Nat × Nat)) : List Bool :=
  fields.flatMap fun f => (List.range f.1).map fun k => f.2.testBit (f.1 - 1 - k)

/-- A signed value in two's complement in `w` bits (R176). -/
def twos (w : Nat) (v : Int) : Nat := (v % 2 ^ w).toNat

/-- A channel of the STATUS record (11.6). Codes are places in the lists of R176, here and below. -/
def channelFields (s : State) (ch : Channel) : List (Nat × Nat) :=
  [(2, [ChannelState.valid, .held, .fault].idxOf (channel s ch).state),
   (2, [none, some Reason.opened, some .short, some .outOfRange].idxOf (channel s ch).reason),
   (12, twos 12 ((channelValue s ch).getD 0))]

/-- A fan of the STATUS record (11.6). -/
def fanFields (r : FanRecord) : List (Nat × Nat) :=
  [(2, [FanState.off, .running, .settled, .fault].idxOf r.state), (2, r.retryCount), (1, r.shortfall.toNat), (11, r.target),
   (11, r.commanded), (12, r.speedTarget), (12, r.measured), (10, r.duty)]

/-- The mode stack's group of the STATUS record (11.6). -/
def modeFields (s : State) : List (Nat × Nat) :=
  [(2, [ClimateSet.mild, .normal, .cold].idxOf s.mst.climate),
   (2, if (topEntry s.mst).origin = .combustion then 3 else [ClimateSet.mild, .normal, .cold].idxOf s.mst.climate),
   (1, (combustionFlag s).toNat), (1, (!s.mst.boost.debouncedHigh).toNat), (1, (!s.mst.away.debouncedHigh).toNat),
   (1, s.mst.combustion.debouncedHigh.toNat)]

/-- The frost guard's group of the STATUS record (11.6). The thaw timer's unit is the model's choice (log 36). -/
def frostFields (s : State) : List (Nat × Nat) :=
  [(4, [FrostState.clear, .watch, .preheat, .reduce, .intent, .thawU, .thawB, .recover, .fallback].idxOf s.frg.state),
   (1, (s.frg.state == .fallback && s.frg.timedThaw.isSome).toNat), (16, s.frg.load),
   (12, twos 12 (s.frg.tdEta.getD (-2048))), (1, s.frg.icePossible.toNat), (8, s.frg.iceIndex),
   (1, s.frg.available.toNat), (7, s.frg.power), (1, (!s.frg.cutout.debouncedHigh).toNat),
   (12, (s.frg.thaw.map (· / 48000)).getD 4095),
   (2, [Announcement.none, .intent, .thawU, .thawB].idxOf (announcement s)), (8, s.frg.urgency.getD 0),
   (3, [none, some Denial.peerThaw, some .peerPrecedence, some .combustion, some .line].idxOf s.frg.denial)]

/-- The humidity evaluator's group of the STATUS record (11.6). -/
def humidityFields (s : State) : List (Nat × Nat) :=
  [(10, twos 10 (s.hev.ring[s.hev.writeIndex - 1].getD 1023)), (4, s.hev.writeIndex.val),
   (11, twos 11 (s.hev.rise.getD (-1024))), (12, twos 12 (s.hev.tdEta.getD (-2048))),
   (12, twos 12 (s.hev.tdOut.getD (-2048)))] ++
  ([0, 1, 2, 3] : List (Fin 4)).flatMap (fun i =>
    [(6, s.hev.counters[i]), (1, (s.hev.counters[i] == s.params.rules[i].n).toNat)]) ++
  [(1, s.hev.boost.toNat), (1, s.hev.dry.toNat), (1, (boostingFlag s).toNat)]

/-- The outdoor resolver's group of the STATUS record (11.6). -/
def outdoorFields (s : State) : List (Nat × Nat) :=
  [(12, twos 12 (s.odr.tOut.getD (-2048))),
   (2, if s.odr.tTag = some .own then 0 else if s.odr.tTag = some .terrace then 1 else 2),
   (10, twos 10 (s.odr.rhOut.getD 1023)),
   (2, if s.odr.rhTag = some .own then 0 else if s.odr.rhTag = some .terrace then 1 else 2), (1, s.odr.plume.toNat),
   (12, twos 12 (s.odr.tRef.getD (-2048))), (4, (referenceValues s PeerEntry.outdoorT).length),
   (10, twos 10 (s.odr.rhRef.getD 1023)), (4, (referenceValues s PeerEntry.outdoorRH).length)]

/-- The memory port's group of the STATUS record (11.6). -/
def portFields (s : State) : List (Nat × Nat) :=
  [(2, [PortState.loading, .idle, .saving].idxOf s.mpt.state), (1, s.mpt.savePending.toNat),
   (3, [ConfigResult.ok, .noMemory, .header, .configSum, .configRange].idxOf s.mpt.configResult),
   (2, [RecordResult.ok, .notRead, .recordSum, .recordRange].idxOf s.mpt.recordResult)]

/-- The STATUS record (11.6). -/
def statusFields (s : State) : List (Nat × Nat) :=
  ([.tOda, .tSup, .tEta, .tEha, .rhEta, .rhOda, .pSupf, .pExt] : List Channel).flatMap (channelFields s) ++
    fanFields (fan s .sup) ++ fanFields (fan s .ext) ++ modeFields s ++ frostFields s ++ humidityFields s ++
    outdoorFields s ++ portFields s

/-- A FILTERS record (11.6). -/
def filterFields (s : State) (f : Fan) (r : FilterRecord) : List (Nat × Nat) :=
  [(3, [FilterState.unreferenced, .clean, .loading, .due, .overdue, .blocked].idxOf r.state), (10, r.dpRef.getD 0),
   (11, r.qRef.getD 0), (8, r.index), (16, r.runHours), (24, r.volume), (10, r.hoursDue), (1, r.blocked.isSome.toNat),
   (10, (r.blocked.map (· / 48000)).getD 0), (1, r.capture.isSome.toNat), (6, r.capture.getD 0),
   (8, if f = .ext then s.flm.lx else 0), (1, if f = .ext then s.frg.icePossible.toNat else 0)]

/-- An occupied PEERS slot (11.6). -/
def peerFields (x : PeerEntry) : List (Nat × Nat) :=
  [(4, x.position.toNat), (2, [Announcement.none, .intent, .thawU, .thawB].idxOf x.announcement), (8, x.urgency.getD 0),
   (12, twos 12 (x.outdoorT.getD (-2048))), (10, twos 10 (x.outdoorRH.getD 1023)), (1, x.plume.toNat), (1, x.boosting.toNat),
   (10, twos 10 (x.exhaustRH.getD 1023)), (6, x.age)]

/-- An occupied MODES slot (11.6). -/
def modeSlotFields (x : ModeEntry) : List (Nat × Nat) :=
  [(3, [Origin.base, .away, .humDry, .humBoost, .button, .combustion].idxOf x.origin), (2, priority x.origin),
   (3, x.level.val), (14, x.remaining.getD 16383), (16, x.seq.toNat)]

/-- A FAULTS record (11.6). -/
def faultFields (r : FaultRecord) : List (Nat × Nat) :=
  [(1, r.active.toNat), (8, r.count), (32, r.first.toNat), (32, r.last.toNat)]

/-- The fault kinds in the order of R174. -/
def faultOrder : List FaultKind :=
  [.sens .tOda, .sens .tSup, .sens .tEta, .sens .tEha, .sens .rhEta, .sens .rhOda, .sens .pSupf, .sens .pExt,
   .fan .sup, .fan .ext, .preheatCutout, .filterBlocked, .configDefaults, .recordsLost, .memoryWrite,
   .duplicatePosition, .lineErrors]

/-- The code of a frame kind, 7 where it is absent (R176). -/
def kindCodeOr7 (k : Option FrameKind) : Nat :=
  [none, some FrameKind.intent, some .endThaw, some .state, some .query, some .clear, some .reply].idxOf k + if k = none then 7 else 0

/-- The LINE record (11.6). A field with a place and no stated value (an elapsed time of a stopped timer, the kind of an empty
slot, a field of an absent sender or of an empty capture) has some value (log 10). -/
structure LineRecordIs (s : State) (bits : List Bool) : Prop where
  layout : ∃ quiet listenIn urgentKind replyKind stateKind fault sender time, bits = fieldBits
    [(2, [LineState.off, .listen, .active, .quiet].idxOf s.lnc.state), (4, s.lnc.lastSender.toNat), (2, s.lnc.failures),
     (5, quiet), (5, listenIn), (1, s.lnc.urgent.isSome.toNat), (3, urgentKind), (1, s.lnc.reply.isSome.toNat),
     (3, replyKind), (1, s.lnc.stateSlot.isSome.toNat), (3, stateKind),
     (2, [none, some Slot.urgent, some .reply, some .state].idxOf s.lnc.mark), (1, s.lnc.capture.isSome.toNat), (3, fault),
     (1, (s.lnc.capture.bind LineCapture.sender).isSome.toNat), (4, sender),
     (3, kindCodeOr7 (s.lnc.capture.bind LineCapture.kind)), (32, time)] ∧
    (∀ n, s.lnc.quiet = some n → quiet = n / 48000) ∧ (∀ n, s.lnc.listenIn = some n → listenIn = n / 48000) ∧
    (∀ x, s.lnc.urgent = some x → urgentKind = kindCodeOr7 (some x.kind)) ∧
    (∀ x, s.lnc.reply = some x → replyKind = kindCodeOr7 (some x.kind)) ∧
    (∀ x, s.lnc.stateSlot = some x → stateKind = kindCodeOr7 (some x.kind)) ∧
    ∀ c, s.lnc.capture = some c → time = c.time.toNat ∧
      fault = [LineFaultKind.bitError, .crcError, .formError, .frameTimeout, .stuck].idxOf c.fault ∧
      ∀ p, c.sender = some p → sender = p.toNat

/-- The records of the six spaces have the fields of 11.6 in their order and widths, and fields are packed into bytes with the
last byte filled with zero bits (R176). -/
def LaysOutRecords : Prop :=
  (∀ bits : List Bool, (packBytes bits).length = (bits.length + 7) / 8 ∧
    ∀ i, i < 8 * (packBytes bits).length →
      (packBytes bits)[i / 8]?.map (fun b => b.getMsbD (i % 8)) = some (bits.getD i false)) ∧
  ∀ s : State,
    recordBits s .status 0 = fieldBits (statusFields s) ∧ (recordBits s .status 0).length = 479 ∧
    recordBits s .filters 0 = fieldBits (filterFields s .sup (filterRecord s .sup)) ∧
    recordBits s .filters 1 = fieldBits (filterFields s .ext (filterRecord s .ext)) ∧
    (∀ (i : Nat) (x : PeerEntry), s.ptb.entries[i]? = some x → recordBits s .peers i = fieldBits (peerFields x)) ∧
    (∀ i : Nat, s.ptb.entries[i]? = none → ∃ rest, recordBits s .peers i = fieldBits [(4, 15), (50, rest)]) ∧
    (∀ (i : Nat) (x : ModeEntry), (s.mst.above ++ [s.mst.base])[i]? = some x →
      recordBits s .modes i = fieldBits (modeSlotFields x)) ∧
    (∀ i : Nat, (s.mst.above ++ [s.mst.base])[i]? = none → ∃ rest, recordBits s .modes i = fieldBits [(3, 7), (35, rest)]) ∧
    (∀ (i : Nat) (k : FaultKind), faultOrder[i]? = some k → recordBits s .faults i = fieldBits (faultFields (faultRecord s k))) ∧
    LineRecordIs s (recordBits s .line 0)

/-- A STATE payload's content obeys R142. -/
structure UsableContent (x : StateContent) : Prop where
  urgency : x.urgency = none ↔ x.announcement = .none
  outdoorT : ∀ v, x.outdoorT = some v → -400 ≤ v ∧ v ≤ 800
  outdoorRH : ∀ v, x.outdoorRH = some v → 0 ≤ v ∧ v ≤ 1000
  exhaustRH : ∀ v, x.exhaustRH = some v → 0 ≤ v ∧ v ≤ 1000 ∧ x.boosting = true

/-- The payloads of STATE, INTENT and END frames (11.5, R142): a payload of another length is unusable, and so is a STATE
payload with a content that R142 forbids; a usable one says what its bytes say. -/
def ReadsPayloads : Prop :=
  (∀ p, p.length ≠ 8 → readState p = none) ∧ (∀ p, p.length ≠ 1 → readIntent p = none) ∧
  (∀ u : Byte, readIntent [u] = some u.toNat) ∧ (∀ p, readEnd p = true ↔ p = []) ∧
  ∀ (b0 b1 b2 b3 b4 b5 b6 b7 : Byte) (x : StateContent),
    x = { announcement := [.none, .intent, .thawU, .thawB].getD (b0.toNat / 64) .none
          urgency := if b0.getLsbD 5 then some b1.toNat else none
          outdoorT := if b0.getLsbD 4 then some (b2 ++ b3).toInt else none
          outdoorRH := if b0.getLsbD 3 then some ((b4 ++ b5).toNat : Int) else none
          plume := b0.getLsbD 2
          boosting := b0.getLsbD 1
          exhaustRH := if b0.getLsbD 0 then some ((b6 ++ b7).toNat : Int) else none } →
    (UsableContent x → readState [b0, b1, b2, b3, b4, b5, b6, b7] = some x) ∧
    (¬ UsableContent x → readState [b0, b1, b2, b3, b4, b5, b6, b7] = none)

/-- The STATE payload as it is composed (R132, 11.5): what it says of this station, and that a usable content is read as it was
written, absent fields being sent as 0. -/
def WritesStatePayloads : Prop :=
  (∀ x : StateContent, UsableContent x → (∀ u, x.urgency = some u → u ≤ 255) → readState (stateBytes x) = some x) ∧
  (∀ x : StateContent, (stateBytes x).length = 8 ∧ (x.urgency = none → (stateBytes x)[1]? = some 0) ∧
    (x.outdoorT = none → ((stateBytes x).drop 2).take 2 = [0, 0]) ∧
    (x.outdoorRH = none → ((stateBytes x).drop 4).take 2 = [0, 0]) ∧
    (x.exhaustRH = none → (stateBytes x).drop 6 = [0, 0])) ∧
  ∀ s : State, (s.frg.state = .intent → announcement s = .intent) ∧ (s.frg.state = .thawU → announcement s = .thawU) ∧
    (s.frg.state = .thawB ∨ (s.frg.state = .fallback ∧ s.frg.timedThaw ≠ none) → announcement s = .thawB) ∧
    (s.frg.state ∉ [FrostState.intent, .thawU, .thawB, .fallback] ∨ (s.frg.state = .fallback ∧ s.frg.timedThaw = none) →
      announcement s = .none) ∧
    (stateContent s).announcement = announcement s ∧ (announcement s = .none → (stateContent s).urgency = none) ∧
    (∀ u, announcement s ≠ .none → s.frg.urgency = some u → (stateContent s).urgency = some u) ∧
    (stateContent s).outdoorT = channelValue s .tOda ∧ (stateContent s).outdoorRH = channelValue s .rhOda ∧
    (stateContent s).plume = s.odr.plume ∧ (stateContent s).boosting = boostingFlag s ∧
    (stateContent s).exhaustRH = if boostingFlag s then channelValue s .rhEta else none

end Sys2Proof.Safety
end

