-- ==== Sys2Proof/WellFormed.lean ====
section
/-! DEFINITION. Which commands can exist: the checks that a command's operands satisfy on the hardware. -/

namespace Sys2Proof

/-- A frame's payload has 0 to 63 bytes (R123). -/
def payloadFits (payload : List Byte) : Bool := payload.length ≤ 63

/-- The two kind codes that no kind uses (R176). -/
def unusedKindCode (kind : BitVec 3) : Bool := kind == 0 || kind == 7

/-- A payload's second byte, where it has one, is the code its row stands for (the space of a QUERY, the item of a
CLEAR), or one of the codes from `known` on, which stand for no space or item and which any row may carry (R172, R173). -/
def secondByteIs (code known : Byte) (payload : List Byte) : Bool :=
  match payload[1]? with
  | none => true
  | some b => b == code || decide (known.toNat ≤ b.toNat)

/-- The payload of a QUERY for the space with this code, of six. -/
def queryPayload (code : Byte) (payload : List Byte) : Bool := payloadFits payload && secondByteIs code 6 payload

/-- The payload of a CLEAR of the item with this code, of three. -/
def clearPayload (code : Byte) (payload : List Byte) : Bool := payloadFits payload && secondByteIs code 3 payload

/-- The well-formed commands. A payload may have the wrong length for its kind (R142, R172 say what then happens); it
may not be longer than a frame can carry, and a row of a space or item carries that code. -/
def Instr.wf : Instr → Bool
  | .powerOn | .settlingWaitExpiry _ _ | .memoryBusyPoll _ _ | .memoryBusyTimeout _ | .startLoadCompletion _ => true
  | .conversionComplete _ _ | .holdTimerExpiry _ | .tachEdge _ _ _ | .scanCompletion => true
  | .fanEvaluation | .settleTimerExpiry _ | .stallTimerExpiry _ | .retryPauseExpiry _ => true
  | .inputLevelChange _ _ | .boostDebounceExpiry | .awayDebounceExpiry | .combustionDebounceExpiry => true
  | .countdownTick | .remainingTimeExpiry | .climateTimerExpiry => true
  | .frostEvaluation | .fullPowerTimerExpiry | .holdoffExpiry | .thawTimerExpiry | .recoverTimerExpiry => true
  | .timedThawExpiry | .icePossibleHoldExpiry | .heatOnTimeExpiry | .cutoutDebounceExpiry => true
  | .volumeRollover _ | .runHourRollover _ | .dueHoursExpiry _ | .blockedTimerExpiry _ => true
  | .captureQualificationExpiry _ | .filterDebounceExpiry | .filterHoldExpiry => true
  | .saveStatusPoll _ | .saveByteTimeout | .saveByteReadback _ | .humidityEvaluation => true
  | .idleSpaceReached | .contentionBegin _ | .contentionLost _ | .bitError | .frameSuccess => true
  | .stuffingViolation sender kind => sender.isSome || kind.isNone
  | .crcError _ _ | .frameTimeout _ _ | .stuck => true
  | .formError _ kind => unusedKindCode kind
  | .stateFrame _ payload | .intentFrame _ payload | .endFrame _ payload | .replyFrame _ payload => payloadFits payload
  | .queryStatus _ payload => queryPayload 0 payload
  | .queryFilters _ payload => queryPayload 1 payload
  | .queryPeers _ payload => queryPayload 2 payload
  | .queryModes _ payload => queryPayload 3 payload
  | .queryFaults _ payload => queryPayload 4 payload
  | .queryLine _ payload => queryPayload 5 payload
  | .clearLineCapture _ payload => clearPayload 0 payload
  | .clearFaultCounts _ payload => clearPayload 1 payload
  | .clearFanRetry _ payload => clearPayload 2 payload
  | .quietTimerExpiry | .listenInExpiry | .statePeriodExpiry | .ageingTick => true
  | .peerEntryExpiry position => position != 15
  | .plumeHoldExpiry | .lampFlashStep _ | .powerLoss | .dominantSampleInWaiting => true

end Sys2Proof
end

