-- ==== Sys2Proof/Certificates/Slice0/Obligations.lean ====
section
/-! DEFINITION. The statements for the provers. A timed command's statement speaks of the state at the timer's limit: time up
to it passes first (log 2). -/

open Sys2Proof Sys2Proof.Machine Sys2Proof.Safety

/-! ### The step, reset and the supply -/

/-- A step runs the command at the front of the queue on the state with the queue's rest. -/
def Obligations.StepRunsTheFrontCommand : Prop :=
  ∀ (c : Instr) (rest : List Instr) (s : State), s.pending = c :: rest → step s = exec c { s with pending := rest }

/-- With an empty queue one bit time passes (the model's choice, log 1). -/
def Obligations.EmptyQueueStepPassesOneBitTime : Prop :=
  ∀ s : State, s.pending = [] → step s = .next (passTime 5 s)

/-- The values right after reset that the chapters give (R5, R40, R58, R87, R91, R118, R129, R133, R153, R166, R174). -/
def Obligations.ResetValuesOfEveryBlock : Prop :=
  runClock State.reset = 0 ∧ State.reset.pending = [] ∧
  (∀ ch, channel State.reset ch = ⟨.fault, none, none, none, 0⟩) ∧ State.reset.msc.pulses = ⟨0, 0⟩ ∧
  (∀ f, fan State.reset f = ⟨0, 0, 0, 0, 0, .off, 0, 0, none, 0, false⟩) ∧
  State.reset.mst.above = [] ∧ State.reset.mst.base = ⟨.base, 2, none, 0⟩ ∧ State.reset.mst.counter = 1 ∧
  State.reset.mst.climate = .normal ∧ State.reset.mst.climateTimer = none ∧ State.reset.mst.countdown = none ∧
  State.reset.mst.boostCopy = false ∧ State.reset.mst.dryCopy = false ∧ combustionFlag State.reset = false ∧
  State.reset.mst.boost.low = false ∧ State.reset.mst.away.low = false ∧ combustionActive State.reset = false ∧
  State.reset.mst.boost.candidate = 0 ∧ State.reset.mst.away.candidate = 0 ∧ State.reset.mst.combustion.candidate = 0 ∧
  State.reset.frg.state = .clear ∧ State.reset.frg.load = 0 ∧ State.reset.frg.tdEta = none ∧
  State.reset.frg.icePossible = false ∧ State.reset.frg.iceHold = none ∧ State.reset.frg.iceIndex = 0 ∧
  State.reset.frg.available = false ∧ State.reset.frg.power = 0 ∧ State.reset.frg.heatOn = false ∧
  State.reset.frg.fullPower = none ∧ State.reset.frg.holdoff = none ∧ State.reset.frg.thaw = none ∧
  State.reset.frg.recover = none ∧ State.reset.frg.fallbackCycle = none ∧ State.reset.frg.timedThaw = none ∧
  State.reset.frg.urgency = none ∧ State.reset.frg.denial = none ∧
  State.reset.frg.cutout.low = true ∧ State.reset.frg.cutout.candidate = 0 ∧
  (∀ f, filterRecord State.reset f = FilterRecord.atPowerOn) ∧ State.reset.flm.lx = 0 ∧
  State.reset.flm.button.low = false ∧ State.reset.flm.hold = none ∧
  (∀ i : Fin 16, State.reset.hev.ring[i] = none) ∧ State.reset.hev.writeIndex = 0 ∧ State.reset.hev.rise = none ∧
  State.reset.hev.tdEta = none ∧ State.reset.hev.tdOut = none ∧ (∀ i : Fin 4, State.reset.hev.counters[i] = 0) ∧
  State.reset.hev.boost = false ∧ State.reset.hev.dry = false ∧ State.reset.hev.timer = none ∧
  State.reset.lnc.state = .off ∧ State.reset.lnc.phase = .waiting ∧ State.reset.lnc.idleRun = 0 ∧
  State.reset.lnc.lastSender = 0 ∧ State.reset.lnc.failures = 0 ∧ State.reset.lnc.quiet = none ∧
  State.reset.lnc.listenIn = none ∧ State.reset.lnc.statePeriod = none ∧ State.reset.lnc.capture = none ∧
  slotsEmpty State.reset.lnc ∧ State.reset.lnc.shifter = none ∧ State.reset.lnc.mark = none ∧
  State.reset.ptb.entries = [] ∧ State.reset.ptb.timer = none ∧ State.reset.odr.plume = false ∧
  State.reset.odr.plumeHold = none ∧ State.reset.odr.tRef = none ∧ State.reset.odr.rhRef = none ∧
  State.reset.odr.tOut = none ∧ State.reset.odr.rhOut = none ∧
  State.reset.mpt.state = .loading ∧ State.reset.mpt.savePending = false ∧
  State.reset.mpt.configResult = .noMemory ∧ State.reset.mpt.recordResult = .notRead ∧
  State.reset.mpt.locationKnown = false ∧ State.reset.mpt.select = false ∧ State.reset.mpt.clock = false ∧
  lineDrive State.reset = true ∧
  (∀ k, faultRecord State.reset k = ⟨false, 0, 0, 0⟩) ∧ State.reset.srf.boostLamp = false ∧
  lampLit State.reset.srf.filterLamp = false ∧ lampLit State.reset.srf.faultLamp = false

/-- POWER_ON and POWER_LOSS lose the part's state (R166, R171): every block at its power-on values, the pins as they
stand, the queue kept. The serial memory keeps its bytes, but for the byte a save was writing, which holds its old or its
new value (log 9). -/
def Obligations.SupplyCommandsResetEveryBlock : Prop :=
  ∀ s : State, Memory.wf s.memory = true → ∃ t : State,
    exec .powerOn s = .next t ∧ exec .powerLoss s = .next { t with powered := false } ∧
    t = { State.reset with
      mst := ModeStack.atPowerOn s.mst.boost.high s.mst.away.high s.mst.combustion.high
      frg := FrostGuard.atPowerOn s.frg.cutout.high
      flm := FilterMonitor.atPowerOn s.flm.button.high
      memory := t.memory
      freeIndex := t.freeIndex
      pending := s.pending } ∧
    (s.mpt.save = none → t.memory = s.memory) ∧
    ∀ sv, s.mpt.save = some sv →
      (∀ a, a ≠ 226 + sv.place → readByte t.memory a = readByte s.memory a) ∧
      (readByte t.memory (226 + sv.place) = readByte s.memory (226 + sv.place) ∨
        readByte t.memory (226 + sv.place) = sv.bytes.getD sv.place 0)

/-! ### The start load -/

/-- A look at the memory during the start load, after the settling wait or at a busy poll (R166): a busy memory is looked
at again, a ready one is read from address 0; a status of all ones, and a memory still busy after 3 s, complete the start
load without a memory. -/
def Obligations.StartLoadLooksAtTheMemory : Prop :=
  ∀ (s : State) (status : Byte) (order : StartOrder) (e : Nat), s.powered = true → s.mpt.state = .loading →
    (∀ i wait, (i = .settlingWaitExpiry status order ∧ s.mpt.load = .settling ∧ s.mpt.settling = some e ∧
          wait = millis 500) ∨
        (i = .memoryBusyPoll status order ∧ s.mpt.load = .busy ∧ s.mpt.busyPoll = some e ∧ wait = millis 10) →
      ∃ t, exec i s = .next t ∧ t.uptime = s.uptime + (wait - e) ∧ t.memory = s.memory ∧
        (status ≠ 0xFF → status.getLsbD 0 = true →
          t.mpt.state = .loading ∧ t.mpt.load = .busy ∧ t.mpt.busyPoll = some 0 ∧ t.mpt.busyTime.isSome = true ∧
            t.mpt.sent = [[0x05]]) ∧
        (status ≠ 0xFF → status.getLsbD 0 = false →
          t.mpt.state = .loading ∧ t.mpt.load = .reading ∧ t.mpt.sent = [[0x05], [0x03, 0]] ∧ t.mpt.select = true) ∧
        (status = 0xFF → StartedWithoutMemory t ∧ t.mpt.sent = [[0x05]] ∧ t.mpt.select = false)) ∧
    (s.mpt.load = .busy → s.mpt.busyTime = some e →
      ∃ t, exec (.memoryBusyTimeout order) s = .next t ∧ t.uptime = s.uptime + (seconds 3 - e) ∧
        t.memory = s.memory ∧ StartedWithoutMemory t)

/-- The completion of the start load (R166 to R168, R177, R59, R91, R132, R134, R145, R153): the checks of the image, the
parameters and records in use, and what the blocks take up. The order operand is the model's (log 6). -/
def Obligations.StartLoadCompletionTakesTheImageUp : Prop :=
  ∀ (s : State) (order : StartOrder) (img : List Byte), s.powered = true → s.mpt.state = .loading →
    s.mpt.load = .reading → img = readImage s.memory →
    ∃ t, ∃ r : PerFan FilterRecord, exec (.startLoadCompletion order) s = .next t ∧ t.mpt.state ≠ .loading ∧
      (imageWord img 0 ≠ 0xE316 ∨ imageWord img 2 ≠ 253 → t.mpt.configResult = .header ∧ t.mpt.locationKnown = false) ∧
      (imageWord img 0 = 0xE316 → imageWord img 2 = 253 → t.mpt.locationKnown = true ∧
        (byteSum ((img.drop 4).take 222) ≠ 0 → t.mpt.configResult = .configSum) ∧
        (byteSum ((img.drop 4).take 222) = 0 → ¬ ImageInRange img → t.mpt.configResult = .configRange) ∧
        (byteSum ((img.drop 4).take 222) = 0 → ImageInRange img → t.mpt.configResult = .ok)) ∧
      (t.mpt.configResult = .ok → ImageTakenUp img t.params) ∧
      (t.mpt.configResult ≠ .ok → t.params = defaultParams ∧ (faultRecord t .configDefaults).active = true) ∧
      (t.mpt.locationKnown = false → t.mpt.recordResult = .notRead) ∧
      (t.mpt.locationKnown = true →
        (byteSum ((img.drop 226).take 27) ≠ 0 → t.mpt.recordResult = .recordSum) ∧
        (byteSum ((img.drop 226).take 27) = 0 → RecordInRange t.params img 226 → RecordInRange t.params img 239 →
          t.mpt.recordResult = .ok) ∧
        (byteSum ((img.drop 226).take 27) = 0 → ¬ (RecordInRange t.params img 226 ∧ RecordInRange t.params img 239) →
          t.mpt.recordResult = .recordRange)) ∧
      (t.mpt.recordResult = .ok → RecordTakenUp img 226 r.sup ∧ RecordTakenUp img 239 r.ext) ∧
      (t.mpt.recordResult ≠ .ok → r = ⟨FilterRecord.atPowerOn, FilterRecord.atPowerOn⟩ ∧
        (faultRecord t .recordsLost).active = true) ∧
      (order = .stackFirst → t.flm.lx = r.ext.index ∧ ∀ f, filterRecord t f = afterLoadTest t.params (r.get f)) ∧
      (order = .fanFirst → (∀ f, (fan s f).state = .off ∧ (fan s f).commanded = 0) →
        t.flm.lx = r.ext.index ∧ ∀ f, SameSaved (filterRecord t f) (afterLoadTest t.params (r.get f))) ∧
      (r.sup.state = .blocked ∨ r.ext.state = .blocked → (faultRecord t .filterBlocked).active = true) ∧
      t.lnc.state = .listen ∧ t.lnc.phase = .waiting ∧ t.lnc.idleRun = 0 ∧
      t.lnc.lastSender = t.params.position.getD 0 ∧
      t.lnc.listenIn = (if t.params.position.isSome then some 0 else none) ∧ t.lnc.statePeriod = some 0 ∧
      t.mst.base = { s.mst.base with level := t.params.baseLevel } ∧ t.mst.countdown = some 0 ∧
      (s.mst.above = [] →
        (s.mst.away.debouncedHigh = true → s.mst.combustion.debouncedHigh = false →
          t.mst.above = [] ∧ t.mst.counter = s.mst.counter) ∧
        (s.mst.away.debouncedHigh = false → s.mst.combustion.debouncedHigh = false →
          t.mst.above = [⟨.away, 1, none, s.mst.counter⟩] ∧ t.mst.counter = s.mst.counter + 1) ∧
        (s.mst.away.debouncedHigh = true → s.mst.combustion.debouncedHigh = true →
          t.mst.above = [⟨.combustion, t.params.combLevel, none, s.mst.counter⟩] ∧
            t.mst.counter = s.mst.counter + 1) ∧
        (s.mst.away.debouncedHigh = false → s.mst.combustion.debouncedHigh = true →
          t.mst.above = [⟨.combustion, t.params.combLevel, none, s.mst.counter + 1⟩,
            ⟨.away, 1, none, s.mst.counter⟩] ∧ t.mst.counter = s.mst.counter + 2)) ∧
      t.mst.climateTimer = some 0 ∧ t.odr.tOut.isSome = true ∧ t.frg.timer = some 0 ∧ t.hev.timer = some 0 ∧
      t.ptb.timer = some 0 ∧ t.memory = s.memory

/-! ### Measurement scanner -/

/-- A good sample on a VALID channel (R6). -/
def Obligations.GoodSampleOnValidReplacesTheValue : Prop :=
  ∀ (s : State) (ch : Channel) (raw : BitVec 12) (v : Int), s.powered = true → (channel s ch).state = .valid →
    sampleOf ch raw = .good v →
    ∃ t, exec (.conversionComplete ch raw) s = .next t ∧ channel t ch = { channel s ch with value := some v }

/-- The classification and conversion of a sample (R2, R3), a bad sample on a VALID channel (R7), both samples on a HELD one
(R8), and both on one in FAULT (R10). A T_EHA that becomes VALID takes the guard out of FALLBACK (R83), and a change of T_ODA's
or RH_ODA's record works the effective outdoor values out again (R151, R152). -/
def Obligations.SamplesMoveTheChannelRecord : Prop :=
  (∀ (ch : Channel) (raw : BitVec 12) (n : Nat), n = raw.toNat →
    (ch = .tOda ∨ ch = .tSup ∨ ch = .tEta ∨ ch = .tEha →
      (n ≤ 15 → sampleOf ch raw = .bad .short) ∧ (4080 ≤ n → sampleOf ch raw = .bad .opened) ∧
      (16 ≤ n → n ≤ 292 → sampleOf ch raw = .bad .outOfRange) ∧
      (293 ≤ n → n ≤ 3805 → sampleOf ch raw = .good (((n * 1400 / 4095 : Nat) : Int) - 500)) ∧
      (3806 ≤ n → n ≤ 4079 → sampleOf ch raw = .bad .outOfRange)) ∧
    (ch = .rhEta ∨ ch = .rhOda →
      (n ≤ 15 → sampleOf ch raw = .bad .opened) ∧ (4080 ≤ n → sampleOf ch raw = .bad .short) ∧
      (16 ≤ n → n ≤ 406 → sampleOf ch raw = .bad .outOfRange) ∧
      (407 ≤ n → n ≤ 3689 → sampleOf ch raw = .good ((((n : Int) - 410) * 1000).tdiv 3276)) ∧
      (3690 ≤ n → n ≤ 4079 → sampleOf ch raw = .bad .outOfRange)) ∧
    (ch = .pSupf ∨ ch = .pExt →
      (n ≤ 15 → sampleOf ch raw = .bad .opened) ∧ (4080 ≤ n → sampleOf ch raw = .bad .short) ∧
      (16 ≤ n → n ≤ 367 → sampleOf ch raw = .bad .outOfRange) ∧
      (368 ≤ n → n ≤ 410 → sampleOf ch raw = .good 0) ∧
      (410 ≤ n → n ≤ 3689 → sampleOf ch raw = .good ((((n : Int) - 410) * 1000).tdiv 3276)) ∧
      (3690 ≤ n → n ≤ 4079 → sampleOf ch raw = .bad .outOfRange))) ∧
  ∀ (s : State) (ch : Channel) (raw : BitVec 12), s.powered = true →
    ∃ t, exec (.conversionComplete ch raw) s = .next t ∧
      (∀ r, (channel s ch).state = .valid → sampleOf ch raw = .bad r →
        channel t ch = { channel s ch with state := .held, reason := some r, hold := some 0 } ∧
          faultRecord t (.sens ch) = faultRecord s (.sens ch)) ∧
      (∀ v, (channel s ch).state = .held → sampleOf ch raw = .good v →
        channel t ch = { channel s ch with state := .valid, value := some v, hold := none }) ∧
      (∀ r, (channel s ch).state = .held → sampleOf ch raw = .bad r →
        channel t ch = { channel s ch with reason := some r }) ∧
      (∀ v, (channel s ch).state = .fault → sampleOf ch raw = .good v → (channel s ch).goodRun < 2 →
        channel t ch = { channel s ch with goodRun := (channel s ch).goodRun + 1 }) ∧
      (∀ v, (channel s ch).state = .fault → sampleOf ch raw = .good v → (channel s ch).goodRun = 2 →
        channel t ch = { channel s ch with state := .valid, value := some v, goodRun := 0 } ∧
          (faultRecord t (.sens ch)).active = false) ∧
      (∀ r, (channel s ch).state = .fault → sampleOf ch raw = .bad r →
        channel t ch = { channel s ch with goodRun := 0, reason := some r } ∧
          (faultRecord t (.sens ch)).active = true) ∧
      (∀ v, ch = .tEha → (channel s ch).state = .fault → sampleOf ch raw = .good v → (channel s ch).goodRun = 2 →
        (s.frg.state = .fallback → LeavesFallback s t) ∧ (s.frg.state ≠ .fallback → t.frg = s.frg)) ∧
      ((channel s ch).state = .fault → (channel t ch).state = .fault → t.frg = s.frg ∧ t.odr = s.odr) ∧
      (ch = .tOda ∨ ch = .rhOda → inService s = true →
        (channel t ch).state ≠ (channel s ch).state ∨ (channel t ch).value ≠ (channel s ch).value → OutdoorInEffect t)

/-- The hold of a HELD channel expires 30 s after it started (R9). T_EHA's takes the guard to FALLBACK (R81), and T_ODA's or
RH_ODA's works the effective outdoor values out again (R151, R152). -/
def Obligations.HoldExpiryTakesTheChannelToFault : Prop :=
  ∀ (s : State) (ch : Channel) (e : Nat), s.powered = true → (channel s ch).state = .held →
    (channel s ch).hold = some e →
    ∃ t, exec (.holdTimerExpiry ch) s = .next t ∧ t.uptime = s.uptime + (seconds 30 - e) ∧
      channel t ch = { channel s ch with state := .fault, value := none, hold := none, goodRun := 0 } ∧
      (faultRecord t (.sens ch)).active = true ∧
      (ch = .tEha → s.frg.evaluated = true → s.frg.state ≠ .thawU → s.frg.state ≠ .thawB → s.frg.state ≠ .fallback →
        EntersFallback (passTime (seconds 30 - e) s) t) ∧
      (ch = .tEha → s.frg.state = .thawU ∨ s.frg.state = .thawB ∨ s.frg.state = .fallback →
        t.frg = (passTime (seconds 30 - e) s).frg) ∧
      (ch = .tOda ∨ ch = .rhOda → inService s = true → OutdoorInEffect t)

/-- Tachometer edges are counted, with levels shorter than 100 µs ignored, so that a falling edge that bounces counts
once (R13), and a scan completion converts the counts to speeds (R14). -/
def Obligations.TachometerWindowsAreCountedAndConverted : Prop :=
  ∀ (s : State), s.powered = true →
    (∀ f high low, ∃ t, exec (.tachEdge f high low) s = .next t ∧ t.fdr = s.fdr ∧
      (100 ≤ low → 100 ≤ high ∨ s.msc.tachHigh.get f = true →
        t.msc.pulses = s.msc.pulses.set f (s.msc.pulses.get f + 1)) ∧
      (100 ≤ low → high < 100 → s.msc.tachHigh.get f = false → t.msc.pulses = s.msc.pulses) ∧
      (100 ≤ low → t.msc.tachHigh = s.msc.tachHigh.set f false) ∧
      (low < 100 → t.msc.pulses = s.msc.pulses ∧
        t.msc.tachHigh = s.msc.tachHigh.set f (s.msc.tachHigh.get f || decide (100 ≤ high)))) ∧
    (∃ t, exec .scanCompletion s = .next t ∧ t.uptime = s.uptime + (seconds 1 - s.msc.timer) ∧
      (∀ f, (fan t f).measured = min 4000 (s.msc.pulses.get f * 30)) ∧ t.msc.pulses = ⟨0, 0⟩ ∧ t.msc.timer = 0)

/-! ### Fan drive -/

/-- Stage S2 by the frost state (R19). -/
def Obligations.StageS2AppliesTheFrostState : Prop :=
  ∀ (s : State) (p : FlowPair),
    (s.frg.state = .clear ∨ s.frg.state = .watch ∨ s.frg.state = .preheat ∨ s.frg.state = .recover ∨
      (s.frg.state = .fallback ∧ s.frg.timedThaw = none) → stageS2 s p = p) ∧
    (s.frg.state = .reduce ∨ s.frg.state = .intent → stageS2 s p = ⟨p.supply * s.params.kR / 256, p.extract⟩) ∧
    (s.frg.state = .thawU → stageS2 s p = ⟨0, p.extract⟩) ∧
    (s.frg.state = .thawB ∨ (s.frg.state = .fallback ∧ s.frg.timedThaw ≠ none) →
      stageS2 s p = ⟨min (min p.supply p.extract) s.params.qThawB, min (min p.supply p.extract) s.params.qThawB⟩)

/-- Stages S3, S4 and S5 (R20, R21, R22). -/
def Obligations.StagesS3ToS5StopCapAndLimit : Prop :=
  ∀ (s : State) (p : FlowPair),
    ((stageS3 s p).supply = if (fan s .sup).state = .fault then 0 else p.supply) ∧
    ((stageS3 s p).extract = if (fan s .ext).state = .fault then 0 else p.extract) ∧
    ((filterRecord s .sup).state = .blocked ∨ (filterRecord s .ext).state = .blocked →
      stageS4 s p = ⟨min p.supply s.params.qBlockCap, min p.extract s.params.qBlockCap⟩) ∧
    ((filterRecord s .sup).state ≠ .blocked → (filterRecord s .ext).state ≠ .blocked → stageS4 s p = p) ∧
    (∀ f, flowOf p f = 0 → flowOf (stageS5 s p) f = 0) ∧
    (∀ f, flowOf p f ≠ 0 → flowOf p f < s.params.qminRun → flowOf (stageS5 s p) f = s.params.qminRun) ∧
    (∀ f, flowOf p f ≠ 0 → s.params.qminRun ≤ flowOf p f → s.params.qmax < flowOf p f →
      flowOf (stageS5 s p) f = s.params.qmax) ∧
    (∀ f, s.params.qminRun ≤ flowOf p f → flowOf p f ≤ s.params.qmax → flowOf (stageS5 s p) f = flowOf p f)

/-- Stages S6 and S8 (R23, R25): skipped in THAW_U. S6 stops both flows where one is 0; under combustion it brings the
extract down to the supply and leaves the supply alone; otherwise the larger flow comes down to the smaller plus lim. S8 does
the same to the commanded pair, and under combustion it also brings a supply above the extract plus lim down, as the balance
law of R26, R34 and R84 have it (DEDUCED, log 11). -/
def Obligations.StagesS6AndS8Balance : Prop :=
  ∀ (s : State) (p : FlowPair),
    (s.frg.state = .thawU → stageS6 s p = p ∧ stageS8 s p = p) ∧
    (s.frg.state ≠ .thawU → (p.supply = 0 ∨ p.extract = 0) → stageS6 s p = ⟨0, 0⟩) ∧
    (s.frg.state ≠ .thawU → p.supply ≠ 0 → p.extract ≠ 0 →
      (combustionFlag s = true → stageS6 s p = ⟨p.supply, min p.extract p.supply⟩) ∧
      (combustionFlag s = false → p.extract + s.params.lim < p.supply →
        stageS6 s p = ⟨p.extract + s.params.lim, p.extract⟩) ∧
      (combustionFlag s = false → p.supply + s.params.lim < p.extract →
        stageS6 s p = ⟨p.supply, p.supply + s.params.lim⟩) ∧
      (combustionFlag s = false → p.supply ≤ p.extract + s.params.lim → p.extract ≤ p.supply + s.params.lim →
        stageS6 s p = p)) ∧
    (s.frg.state ≠ .thawU → combustionFlag s = true → p.supply < p.extract → stageS8 s p = ⟨p.supply, p.supply⟩) ∧
    (s.frg.state ≠ .thawU → p.extract + s.params.lim < p.supply →
      stageS8 s p = ⟨p.extract + s.params.lim, p.extract⟩) ∧
    (s.frg.state ≠ .thawU → combustionFlag s = false → p.supply + s.params.lim < p.extract →
      stageS8 s p = ⟨p.supply, p.supply + s.params.lim⟩) ∧
    (s.frg.state ≠ .thawU → p.supply ≤ p.extract + s.params.lim → p.extract ≤ p.supply + s.params.lim →
      (combustionFlag s = true → p.extract ≤ p.supply) → stageS8 s p = p)

/-- Stage S7 (R24): down at once, up by slew or by less to reach the target exactly; a fan on its target stays on it. -/
def Obligations.StageS7FallsAtOnceAndRisesBySlew : Prop :=
  ∀ (s : State) (target : FlowPair) (f : Fan),
    (flowOf target f ≤ (fan s f).commanded → flowOf (stageS7 s target) f = flowOf target f) ∧
    ((fan s f).commanded < flowOf target f →
      flowOf (stageS7 s target) f =
        if (fan s f).commanded + s.params.slew ≤ flowOf target f then (fan s f).commanded + s.params.slew
        else flowOf target f)

/-- The fan-loop evaluation in its four parts (R17, R18, R28 to R31, R33, R34, R37, R55), on the state of its moment: the
stages in their order and S1; target, commanded flow, speed target, shortfall flag and duty; OFF, RUNNING and SETTLED with
the settle and stall counts, where neither fan enters FAULT; the entry to FAULT with the guard of R26. -/
def Obligations.FanEvaluationResolvesAndDrives : Prop :=
  ResolvesByStages ∧ SpeedsFollowTheTable ∧
  ∀ (s : State) (e : Nat), inService s = true → s.fdr.timer = some e →
    ∃ (t u : State) (q d : Fan → Nat), exec .fanEvaluation s = .next t ∧ u = passTime (seconds 1 - e) s ∧
      t.fdr.timer = some 0 ∧
      (∀ f, (fan t f).target = flowOf (resolve u) f ∧ q f = flowOf (stageS8 u (stageS7 u (resolve u))) f ∧
        (q f = 0 → d f = 0) ∧ (q f ≠ 0 → (fan s f).duty = 0 → d f = s.params.dutyMin) ∧
        (q f ≠ 0 → (fan s f).duty ≠ 0 →
          d f = (limitInt s.params.dutyMin 1000 ((fan s f).duty +
            (((speedTarget u f (q f) : Nat) - (fan s f).measured : Int) * s.params.ki).tdiv 256)).toNat)) ∧
      ((∀ f, ¬ StallsOut s.params (fan s f) (q f) (d f)) →
        ∀ f, (fan t f).commanded = q f ∧ (fan t f).duty = d f ∧ (fan t f).speedTarget = speedTarget u f (q f) ∧
          (fan t f).shortfall = shortfallTest u f (q f) ∧ (fan t f).measured = (fan s f).measured ∧
          FanStateFollows s.params (fan s f) (fan t f) ∧
          ((fan s f).state ≠ .settled → (fan t f).state = .settled → (faultRecord t (.fan f)).active = false)) ∧
      (∀ f, StallsOut s.params (fan s f) (q f) (d f) →
        (fan t f).state = .fault ∧ (fan t f).commanded = 0 ∧ (fan t f).duty = 0 ∧ (fan t f).speedTarget = 0 ∧
          (fan t f).settle = 0 ∧ (fan t f).stall = 0 ∧
          (fan t f).retryPause = some (if (fan t f).retryCount < 3 then seconds 60 else minutes 15) ∧
          ((fan s f).settle + 1 < 20 → (fan t f).retryCount = (fan s f).retryCount) ∧
          (faultRecord t (.fan f)).active = true ∧
          (s.frg.state ≠ .thawU → (fan t (otherFan f)).commanded ≤ s.params.lim))

/-- The ends of a fan's three counts (R33, R34, R35): SETTLED, FAULT with the other fan brought down to lim outside THAW_U,
and RUNNING again. -/
def Obligations.FanTimersMoveTheFan : Prop :=
  ∀ (s : State) (f : Fan), inService s = true →
    ((fan s f).state = .running → 20 ≤ (fan s f).settle →
      ∃ t, exec (.settleTimerExpiry f) s = .next t ∧
        fan t f = { fan s f with state := .settled, settle := 20, retryCount := 0 } ∧
        fan t (otherFan f) = fan s (otherFan f) ∧ (faultRecord t (.fan f)).active = false) ∧
    ((fan s f).state = .running ∨ (fan s f).state = .settled → 2 ^ s.params.stallK - 1 ≤ (fan s f).stall →
      ∃ t, exec (.stallTimerExpiry f) s = .next t ∧
        fan t f = { fan s f with
          state := .fault, commanded := 0, duty := 0, speedTarget := 0, settle := 0, stall := 0
          retryPause := some (if (fan s f).retryCount < 3 then seconds 60 else minutes 15) } ∧
        (faultRecord t (.fan f)).active = true ∧
        (s.frg.state ≠ .thawU → (fan t (otherFan f)).commanded ≤ s.params.lim)) ∧
    (∀ r, (fan s f).state = .fault → (fan s f).retryPause = some r →
      ∃ t, exec (.retryPauseExpiry f) s = .next t ∧ t.uptime = s.uptime + r ∧
        fan t f = { fan s f with
          state := .running, retryCount := min 3 ((fan s f).retryCount + 1), settle := 0, stall := 0
          retryPause := none } ∧
        faultRecord t (.fan f) = faultRecord s (.fan f))

/-! ### Mode stack -/

/-- A level on an input pin (R46, R47, R67, R102): the pin's level, and the candidate timer at 0 where the level agrees with
the debounced state; nothing else changes, in a part with supply or without. -/
def Obligations.InputLevelStandsOnItsPin : Prop :=
  ∀ (s : State) (high : Bool) (after : Debounce → Debounce),
    after = (fun b => ⟨high, b.debouncedHigh, if high = b.debouncedHigh then 0 else b.candidate, b.heldAtStart && !high⟩) →
    exec (.inputLevelChange .boost high) s = .next { s with mst := { s.mst with boost := after s.mst.boost } } ∧
    exec (.inputLevelChange .away high) s = .next { s with mst := { s.mst with away := after s.mst.away } } ∧
    exec (.inputLevelChange .combustion high) s =
      .next { s with mst := { s.mst with combustion := after s.mst.combustion } } ∧
    exec (.inputLevelChange .filter high) s = .next { s with flm := { s.flm with button := after s.flm.button } } ∧
    exec (.inputLevelChange .cutout high) s = .next { s with frg := { s.frg with cutout := after s.frg.cutout } }

/-- The placement of entries (R42, R43), the debounced BOOST button (R46, R48) and AWAY contact (R47, R49). A debounce is
written as level, debounced level, candidate timer, held across the start. -/
def Obligations.BoostPressAndAwayContactMoveTheStack : Prop :=
  PlacesByPriority ∧
  ∀ (s : State) (e : Nat) (h : Bool), inService s = true →
    (s.mst.boost = ⟨false, true, e, false⟩ →
      ∃ t, exec .boostDebounceExpiry s = .next t ∧ t.uptime = s.uptime + (millis 50 - e) ∧
        t.mst.boost = ⟨false, false, 0, false⟩ ∧
        (hasEntry s.mst .button = false → (topEntry s.mst).origin ≠ .button →
          t.mst.above = place ⟨.button, 4, some (60 * s.params.boostTime), s.mst.counter⟩ s.mst.above ∧
            t.mst.counter = s.mst.counter + 1) ∧
        (hasEntry s.mst .button = true → (topEntry s.mst).origin ≠ .button →
          t.mst.above = s.mst.above.map (fun x =>
            if x.origin = .button then { x with remaining := some (60 * s.params.boostTime) } else x) ∧
            t.mst.counter = s.mst.counter) ∧
        ((topEntry s.mst).origin = .button →
          t.mst.above = s.mst.above.filter (fun x => x.origin != .button) ∧ t.mst.counter = s.mst.counter)) ∧
    (s.mst.boost = ⟨true, false, e, h⟩ →
      ∃ t, exec .boostDebounceExpiry s = .next t ∧ t.mst.boost = ⟨true, true, 0, false⟩ ∧
        t.mst.above = s.mst.above ∧ t.mst.counter = s.mst.counter) ∧
    (s.mst.away = ⟨false, true, e, h⟩ →
      ∃ t, exec .awayDebounceExpiry s = .next t ∧ t.uptime = s.uptime + (seconds 2 - e) ∧
        t.mst.away = ⟨false, false, 0, h⟩ ∧
        (hasEntry s.mst .away = false →
          t.mst.above = place ⟨.away, 1, none, s.mst.counter⟩ s.mst.above ∧ t.mst.counter = s.mst.counter + 1)) ∧
    (s.mst.away = ⟨true, false, e, h⟩ →
      ∃ t, exec .awayDebounceExpiry s = .next t ∧ t.mst.away = ⟨true, true, 0, h⟩ ∧
        t.mst.above = s.mst.above.filter (fun x => x.origin != .away) ∧ t.mst.counter = s.mst.counter)

/-- The debounced COMBUSTION contact (R50): active puts its entry on top, brings the extract down to the supply (R26) and
denies an intent or converts an unbalanced thaw (R79, R159); inactive withdraws the entry. -/
def Obligations.CombustionContactGuardsTheFlue : Prop :=
  ∀ (s : State) (e : Nat) (h : Bool), inService s = true →
    (s.mst.combustion = ⟨true, false, e, h⟩ → hasEntry s.mst .combustion = false →
      ∃ t, exec .combustionDebounceExpiry s = .next t ∧ t.uptime = s.uptime + (seconds 2 - e) ∧
        t.mst.above = ⟨.combustion, s.params.combLevel, none, s.mst.counter⟩ :: s.mst.above ∧
        (fan t .ext).commanded ≤ (fan t .sup).commanded ∧ t.frg.state ≠ .thawU ∧
        (s.frg.state = .intent → t.frg.state = .thawB ∧ t.frg.denial = some .combustion ∧ t.frg.thaw = some 0) ∧
        (s.frg.state = .thawU → t.frg.state = .thawB ∧ t.frg.denial = s.frg.denial ∧
          t.frg.thaw = (passTime (seconds 2 - e) s).frg.thaw)) ∧
    (s.mst.combustion = ⟨false, true, e, h⟩ →
      ∃ t, exec .combustionDebounceExpiry s = .next t ∧
        t.mst.above = s.mst.above.filter (fun x => x.origin != .combustion) ∧ t.fdr.fans = (passTime (seconds 2 - e) s).fdr.fans)

/-- The countdown tick and the end of a remaining time (R45, R53), where HUM_DRY is placed by R43. -/
def Obligations.RemainingTimeCountsOnTopOnly : Prop :=
  PlacesByPriority ∧
  ∀ (s : State) (e : Nat) (x : ModeEntry) (rest : List ModeEntry), inService s = true → s.mst.countdown = some e →
    s.mst.above = x :: rest →
    ∃ t r, exec .countdownTick s = .next t ∧ exec .remainingTimeExpiry s = .next r ∧
      t.mst.countdown = some 0 ∧ t.uptime = s.uptime + (seconds 1 - e) ∧
      (x.remaining = none → t.mst.above = s.mst.above) ∧
      (∀ n, x.remaining = some (n + 2) → t.mst.above = { x with remaining := some (n + 1) } :: rest) ∧
      (x.remaining = some 1 → x.origin = .button → t.mst.above = rest.filter (fun y => y.origin != .button)) ∧
      (x.remaining = some 1 → x.origin = .humBoost → s.mst.dryCopy = false →
        t.mst.above = rest.filter (fun y => y.origin != .humBoost)) ∧
      (x.remaining = some 1 → x.origin = .humBoost → s.mst.dryCopy = true → hasEntry s.mst .humDry = false →
        t.mst.above = place ⟨.humDry, s.params.dryLevel, none, s.mst.counter⟩
          (rest.filter (fun y => y.origin != .humBoost))) ∧
      (x.remaining = some 0 → x.origin = .button → r.mst.above = rest.filter (fun y => y.origin != .button)) ∧
      (x.remaining = some 0 → x.origin = .humBoost → s.mst.dryCopy = true → hasEntry s.mst .humDry = false →
        r.mst.above = place ⟨.humDry, s.params.dryLevel, none, s.mst.counter⟩
          (rest.filter (fun y => y.origin != .humBoost))) ∧
      (x.remaining ≠ some 0 → r.mst = s.mst)

/-- The climate-set evaluation takes at most one step (R57), and changes the climate set and its timer only. -/
def Obligations.ClimateSetTakesOneStep : Prop :=
  ∀ (s : State) (e : Nat) (v : Int), inService s = true → s.mst.climateTimer = some e → s.odr.tOut = some v →
    ∃ t u, exec .climateTimerExpiry s = .next t ∧ u = passTime (minutes 10 - e) s ∧
      t = refreshLamps { u with mst := { u.mst with climate := t.mst.climate, climateTimer := some 0 } } ∧
      (s.mst.climate = .normal → v < -100 → t.mst.climate = .cold) ∧
      (s.mst.climate = .normal → 130 ≤ v → t.mst.climate = .mild) ∧
      (s.mst.climate = .normal → -100 ≤ v → v < 130 → t.mst.climate = .normal) ∧
      (s.mst.climate = .cold → -90 ≤ v → t.mst.climate = .normal) ∧
      (s.mst.climate = .cold → v < -90 → t.mst.climate = .cold) ∧
      (s.mst.climate = .mild → v < 120 → t.mst.climate = .normal) ∧
      (s.mst.climate = .mild → 120 ≤ v → t.mst.climate = .mild)

/-! ### Frost guard -/

/-- The frost evaluation (R61, R62, R64, R69 to R83, R70): the load, the power and the state test in this order on the
state of its moment; dewpoint, load outside thaws and FALLBACK, the ice-possible flag and its hold (R65), heat window, timer. -/
def Obligations.FrostEvaluationUpdatesTheGuard : Prop :=
  ∀ (s : State) (e : Nat), inService s = true → s.frg.timer = some e →
    ∃ t v, exec .frostEvaluation s = .next t ∧
      v = testState (updatePower (updateLoad (passTime (seconds 10 - e) s))) ∧
      t.frg.state = v.frg.state ∧ t.frg.power = v.frg.power ∧ t.frg.load = v.frg.load ∧ t.frg.urgency = v.frg.urgency ∧
      t.frg.denial = v.frg.denial ∧ t.frg.fullPower = v.frg.fullPower ∧ t.frg.holdoff = v.frg.holdoff ∧
      t.frg.thaw = v.frg.thaw ∧ t.frg.recover = v.frg.recover ∧ t.frg.fallbackCycle = v.frg.fallbackCycle ∧
      t.frg.timedThaw = v.frg.timedThaw ∧ t.lnc = v.lnc ∧ t.fdr = v.fdr ∧ t.uptime = s.uptime + (seconds 10 - e) ∧
      t.frg.timer = some 0 ∧ t.frg.evaluated = true ∧ IceAssessed (passTime (seconds 10 - e) s) t ∧
      (∀ a b, channelValue s .tEta = some a → channelValue s .rhEta = some b →
        t.frg.tdEta = some (a - (1000 - limitInt 200 1000 b).tdiv 5)) ∧
      (channelValue s .tEta = none ∨ channelValue s .rhEta = none → t.frg.tdEta = none) ∧
      (s.frg.state ≠ .thawU → s.frg.state ≠ .thawB → s.frg.state ≠ .fallback →
        t.frg.load = nextLoad s.params (fan s .ext).commanded (channelValue s .tEha) t.frg.tdEta s.frg.load) ∧
      t.frg.power ≤ 100 ∧ t.frg.heatOn = decide (0 < t.frg.power) ∧
      t.frg.heatLeft = (if 0 < t.frg.power ∧ t.frg.power < 100 then some (millis (100 * t.frg.power)) else none)

/-- The frost load (R63, R64) and the preheater power (R69) at an evaluation. -/
def Obligations.FrostLoadAndPreheaterPower : Prop :=
  (∀ (p : Params) (q : Nat) (tEha td : Option Int) (load : Nat),
    (q = 0 ∨ tEha = none → nextLoad p q tEha td load = load) ∧
    (∀ t, q ≠ 0 → tEha = some t → p.onset ≤ t → nextLoad p q tEha td load = load - p.decay) ∧
    (∀ t, q ≠ 0 → tEha = some t → t < p.onset → td = none →
      nextLoad p q tEha td load = min 65535 (load + (p.onset - t).toNat / 8)) ∧
    (∀ t d w, q ≠ 0 → tEha = some t → t < p.onset → td = some d →
      w = max 1 (min 32 ((d - t).tdiv 20)) →
      nextLoad p q tEha td load = min 65535 (load + ((p.onset - t) * w).toNat / 8))) ∧
  (∀ s : State,
    (s.frg.available = false → (updatePower s).frg.power = 0) ∧
    (s.frg.state = .clear ∨ s.frg.state = .watch ∨ s.frg.state = .thawU ∨ s.frg.state = .recover →
      (updatePower s).frg.power = 0) ∧
    (s.frg.available = true → s.frg.state = .thawB → (updatePower s).frg.power = 100) ∧
    (∀ v, s.frg.available = true → s.frg.state = .fallback → s.odr.tOut = some v →
      (updatePower s).frg.power = if v < -50 then 50 else 0) ∧
    (∀ v, s.frg.available = true → s.frg.state = .preheat ∨ s.frg.state = .reduce ∨ s.frg.state = .intent →
      channelValue s .tEha = some v →
      (updatePower s).frg.power =
        min 100 (if v < s.params.onset then s.frg.power + 10
          else if s.params.onset + 20 < v then s.frg.power - 5 else s.frg.power)))

/-- The state tests of an evaluation (R71 to R78, R81 to R83), with the states in which no transition is made. The entry to
INTENT with the check made at once (R75, R156, R157, R159), the early end of a thaw (R77, R78), the entry to FALLBACK and the
exit from it (R81, R83). -/
def Obligations.FrostStateTestsMoveTheGuard : Prop :=
  ∀ (s t : State), t = testState s →
    ((channel s .tEha).state = .fault → s.frg.state ≠ .thawU → s.frg.state ≠ .thawB → s.frg.state ≠ .fallback →
      EntersFallback s t) ∧
    (∀ v out, (channel s .tEha).state ≠ .fault → channelValue s .tEha = some v → s.odr.tOut = some out →
      (s.frg.state = .clear → out < s.params.tWatchOut ∨ v < s.params.onset + 20 → t.frg.state = .watch) ∧
      (s.frg.state = .clear → s.params.tWatchOut ≤ out → s.params.onset + 20 ≤ v → t = s) ∧
      (s.frg.state = .watch → s.params.l1 ≤ s.frg.load →
        t.frg.state = (if s.frg.available then .preheat else .reduce) ∧ t.frg.power = 0) ∧
      (s.frg.state = .watch → s.frg.load < s.params.l1 → s.frg.load = 0 → s.params.tWatchOut + 10 ≤ out →
        s.params.onset + 20 ≤ v → t.frg.state = .clear ∧ t.frg.power = 0) ∧
      (s.frg.state = .watch → s.frg.load < s.params.l1 →
        s.frg.load ≠ 0 ∨ out < s.params.tWatchOut + 10 ∨ v < s.params.onset + 20 → t = s) ∧
      (s.frg.state = .preheat → s.frg.load = 0 → s.frg.power = 0 → t.frg.state = .watch) ∧
      (s.frg.state = .preheat → s.frg.load ≠ 0 ∨ s.frg.power ≠ 0 →
        (s.frg.power = 100 → s.params.l1 ≤ s.frg.load → s.frg.fullPower = none →
          t = { s with frg := { s.frg with fullPower := some 0 } }) ∧
        (∀ n, s.frg.power = 100 → s.params.l1 ≤ s.frg.load → s.frg.fullPower = some n →
          (n + 10 < 600 → t = { s with frg := { s.frg with fullPower := some (n + 10) } }) ∧
          (600 ≤ n + 10 → t.frg.state = .reduce ∧ t.frg.power = 100 ∧ t.frg.fullPower = none)) ∧
        (s.frg.power ≠ 100 ∨ s.frg.load < s.params.l1 → t = { s with frg := { s.frg with fullPower := none } })) ∧
      (s.frg.state = .reduce → s.params.l3 ≤ s.frg.load ∨ s.params.iThaw ≤ s.frg.iceIndex →
        EntersIntent s t (min 255 (s.frg.load / 16 + s.frg.iceIndex))) ∧
      (s.frg.state = .reduce → s.frg.load < s.params.l3 → s.frg.iceIndex < s.params.iThaw →
        s.frg.load < s.params.l1 / 2 →
        t.frg.state = (if s.frg.available then .preheat else .watch)) ∧
      (s.frg.state = .reduce → s.frg.load < s.params.l3 → s.frg.iceIndex < s.params.iThaw →
        s.params.l1 / 2 ≤ s.frg.load → t = s) ∧
      (s.frg.state = .thawU ∨ s.frg.state = .thawB → ∀ e, s.frg.thaw = some e →
        (minutes s.params.tThawMin ≤ e → s.params.tThawEnd ≤ v → s.frg.iceIndex ≤ s.params.iClear →
          0 < (fan s .ext).commanded →
          ThawEnds s t) ∧
        (e < minutes s.params.tThawMin ∨ v < s.params.tThawEnd ∨ s.params.iClear < s.frg.iceIndex ∨
          (fan s .ext).commanded = 0 → t = s)) ∧
      (s.frg.state = .intent ∨ s.frg.state = .recover → t = s) ∧
      (s.frg.state = .fallback → LeavesFallback s t)) ∧
    (channelValue s .tEha = none → s.frg.state = .thawU ∨ s.frg.state = .thawB → t = s) ∧
    (∀ out cycle, (channel s .tEha).state = .fault → s.frg.state = .fallback →
      s.odr.tOut = some out → s.frg.fallbackCycle = some cycle →
      (s.frg.timedThaw = none → (out < -100 ∧ minutes 40 ≤ cycle) ∨ (out < -30 ∧ minutes 90 ≤ cycle) →
        t.frg.timedThaw = some 0 ∧ t.frg.fallbackCycle = some 0 ∧ t.frg.urgency = some 0 ∧
          announcement t = .thawB) ∧
      (s.frg.timedThaw ≠ none ∨ -30 ≤ out ∨ (-100 ≤ out ∧ cycle < minutes 90) ∨ cycle < minutes 40 → t = s))

/-- The full-power timer, the recover timer and the on-time of a heat window at their ends (R73, R80, R70). -/
def Obligations.FrostTimersMoveTheGuard : Prop :=
  ∀ (s : State) (e : Nat), inService s = true →
    (s.frg.state = .preheat → s.frg.fullPower = some e → 600 ≤ e →
      ∃ t, exec .fullPowerTimerExpiry s = .next t ∧ t.frg.state = .reduce ∧ t.frg.power = s.frg.power ∧
        t.frg.fullPower = none) ∧
    (s.frg.state = .recover → s.frg.recover = some e →
      ∃ t, exec .recoverTimerExpiry s = .next t ∧ t.uptime = s.uptime + (seconds 300 - e) ∧
        t.frg.state = .watch ∧ t.frg.recover = none ∧ t.frg.load = s.frg.load ∧ t.frg.power = s.frg.power ∧
        IceAssessed (passTime (seconds 300 - e) s) t) ∧
    (s.frg.heatLeft = some e →
      ∃ t, exec .heatOnTimeExpiry s = .next t ∧ t.uptime = s.uptime + e ∧ t.frg.heatOn = false ∧
        t.frg.power = s.frg.power ∧ t.frg.state = s.frg.state)

/-- Precedence (R155), and THAW_U entered by no other command than the end of a holdoff in INTENT, with the line ACTIVE, no
COMBUSTION entry and no ADJ entry in THAW_U or in INTENT with precedence (R79). The end of the holdoff (R156, R159, R160):
THAW_U where no condition of the check holds, else THAW_B with the reason of the first that holds; the thaw timer starts and
a STATE frame with the new announcement is staged. -/
def Obligations.HoldoffEndsInAThaw : Prop :=
  PrecedesByUrgencyThenPosition ∧
  (∀ (i : Instr) (s t : State), exec i s = .next t → s.frg.state ≠ .thawU → t.frg.state = .thawU →
    i = .holdoffExpiry ∧ s.frg.state = .intent ∧ s.frg.holdoff.isSome = true ∧ s.lnc.state = .active ∧
      combustionFlag s = false ∧
      ∀ x ∈ s.ptb.entries, inSet s.params.adj x.position = true → x.announcement ≠ .thawU ∧
        (x.announcement = .intent → entryPrecedes s x = false)) ∧
  ∀ (s : State) (e : Nat), inService s = true → s.frg.state = .intent → s.frg.holdoff = some e → s.lnc.state ≠ .off →
    ∃ t, exec .holdoffExpiry s = .next t ∧ t.uptime = s.uptime + (seconds 30 - e) ∧ t.frg.holdoff = none ∧
      t.frg.thaw = some 0 ∧ t.frg.urgency = s.frg.urgency ∧ t.lnc.statePeriod = some 0 ∧
      t.lnc.stateSlot = some ⟨.state, stateBytes (stateContent t)⟩ ∧
      (combustionFlag s = false → s.lnc.state = .active →
        (∀ x ∈ s.ptb.entries, inSet s.params.adj x.position = true → x.announcement ≠ .thawU ∧
          (x.announcement = .intent → entryPrecedes s x = false)) →
        t.frg.state = .thawU ∧ t.frg.power = 0 ∧ t.frg.heatOn = false ∧ t.frg.denial = s.frg.denial ∧
          announcement t = .thawU) ∧
      (combustionFlag s = true → t.frg.state = .thawB ∧ t.frg.denial = some .combustion) ∧
      (combustionFlag s = false → s.lnc.state ≠ .active → t.frg.state = .thawB ∧ t.frg.denial = some .line) ∧
      (combustionFlag s = false → s.lnc.state = .active →
        (∃ x ∈ s.ptb.entries, inSet s.params.adj x.position = true ∧ x.announcement = .thawU) →
        t.frg.state = .thawB ∧ t.frg.denial = some .peerThaw) ∧
      (combustionFlag s = false → s.lnc.state = .active →
        (∀ x ∈ s.ptb.entries, inSet s.params.adj x.position = true → x.announcement ≠ .thawU) →
        (∃ x ∈ s.ptb.entries, inSet s.params.adj x.position = true ∧ x.announcement = .intent ∧
          entryPrecedes s x = true) →
        t.frg.state = .thawB ∧ t.frg.denial = some .peerPrecedence)

/-- A thaw ends at t_thaw_max (R78), and a FALLBACK timed thaw at 600 s (R82). -/
def Obligations.ThawsEndAtTheirTimers : Prop :=
  ∀ (s : State) (e : Nat), inService s = true → s.lnc.state ≠ .off →
    (s.frg.state = .thawU ∨ s.frg.state = .thawB → s.frg.thaw = some e →
      ∃ t, exec .thawTimerExpiry s = .next t ∧ t.uptime = s.uptime + (minutes s.params.tThawMax - e) ∧
        ThawEnds (passTime (minutes s.params.tThawMax - e) s) t ∧ t.lnc.urgent = some ⟨.endThaw, []⟩ ∧
        (s.frg.state = .thawU → (fan t .ext).commanded ≤ (fan t .sup).commanded + s.params.lim)) ∧
    (s.frg.timedThaw = some e →
      ∃ t, exec .timedThawExpiry s = .next t ∧ t.uptime = s.uptime + (seconds 600 - e) ∧ t.frg.timedThaw = none ∧
        t.frg.load = 0 ∧ t.frg.urgency = none ∧ t.lnc.urgent = some ⟨.endThaw, []⟩ ∧ t.frg.state = s.frg.state ∧
        t.frg.power = s.frg.power)

/-- The ice-possible hold ends (R65, R66, R95): the flag clears, the ice index is 0, F_EXT's index takes LX. -/
def Obligations.IceHoldEndsWithTheFlagClear : Prop :=
  ∀ (s : State) (e : Nat), inService s = true → s.frg.iceHold = some e →
    ∃ t, exec .icePossibleHoldExpiry s = .next t ∧ t.uptime = s.uptime + (seconds 600 - e) ∧
      t.frg.icePossible = false ∧ t.frg.iceHold = none ∧ t.frg.iceIndex = 0 ∧
      (filterRecord t .ext).index = s.flm.lx ∧ t.flm.lx = s.flm.lx ∧ t.frg.state = s.frg.state

/-- The debounced CUTOUT contact (R67, R68, R73). -/
def Obligations.CutoutWithdrawsThePreheater : Prop :=
  ∀ (s : State) (e : Nat) (h : Bool), inService s = true →
    (s.frg.cutout = ⟨true, false, e, h⟩ →
      ∃ t, exec .cutoutDebounceExpiry s = .next t ∧ t.uptime = s.uptime + (seconds 2 - e) ∧
        t.frg.available = false ∧ t.frg.power = 0 ∧ t.frg.heatOn = false ∧
        t.frg.state = (if s.frg.state = .preheat then .reduce else s.frg.state) ∧
        (faultRecord t .preheatCutout).active = true) ∧
    (s.frg.cutout = ⟨false, true, e, h⟩ →
      ∃ t, exec .cutoutDebounceExpiry s = .next t ∧ t.frg.cutout.low = true ∧
        t.frg.available = preheaterTerms t ∧ (faultRecord t .preheatCutout).active = false)

/-! ### Filter monitor and memory port -/

/-- A second of running at an evaluation (R92), a cubic metre, a run hour and the hours in DUE full (R92, R97, R104). That the
hours in DUE stop at 720 in a record loaded with 720 is the model's choice (log 32). -/
def Obligations.FilterCountsRollOver : Prop :=
  (∀ (s : State) (f : Fan) (r : FilterRecord) (e : Nat), inService s = true → s.fdr.timer = some e →
    r = filterRecord s f →
    ∃ t q x, exec .fanEvaluation s = .next t ∧ q = (fan t f).commanded ∧ x = filterRecord t f ∧
      (q = 0 → x.remainder = r.remainder ∧ x.volume = r.volume ∧ x.runSeconds = r.runSeconds ∧
        x.runHours = r.runHours) ∧
      (q ≠ 0 →
        (r.remainder + q < 10000 → x.remainder = r.remainder + q ∧ x.volume = r.volume) ∧
        (10000 ≤ r.remainder + q → x.remainder = r.remainder + q - 10000 ∧
          x.volume = if r.volume < 16777215 then r.volume + 1 else r.volume) ∧
        (r.runSeconds + 1 < 3600 → x.runSeconds = r.runSeconds + 1 ∧ x.runHours = r.runHours) ∧
        (3600 ≤ r.runSeconds + 1 → x.runSeconds = 0 ∧
          x.runHours = if r.runHours < 65535 then r.runHours + 1 else r.runHours) ∧
        (10000 ≤ r.remainder + q → r.volume < 16777215 → r.runSeconds + 1 < 3600 → belowDue r.state = true →
          s.params.dueHours ≤ r.runHours ∨ s.params.dueVol ≤ r.volume + 1 → x.state = .due ∧ x.hoursDue = 0) ∧
        (3600 ≤ r.runSeconds + 1 → r.runHours < 65535 → r.remainder + q < 10000 →
          (r.state = .due → x.hoursDue = min 720 (r.hoursDue + 1) ∧
            x.state = if 720 ≤ r.hoursDue + 1 then .overdue else .due) ∧
          (belowDue r.state = true → s.params.dueHours ≤ r.runHours + 1 ∨ s.params.dueVol ≤ r.volume →
            x.state = .due ∧ x.hoursDue = 0)))) ∧
  ∀ (s : State) (f : Fan) (r : FilterRecord), inService s = true → r = filterRecord s f →
    (10000 ≤ r.remainder → r.volume < 16777215 →
      ∃ t, exec (.volumeRollover f) s = .next t ∧
        filterRecord t f =
          (if belowDue r.state = true ∧ (s.params.dueHours ≤ r.runHours ∨ s.params.dueVol ≤ r.volume + 1) then
            { r with remainder := r.remainder - 10000, volume := r.volume + 1, state := .due, hoursDue := 0 }
          else { r with remainder := r.remainder - 10000, volume := r.volume + 1 })) ∧
    (3600 ≤ r.runSeconds → r.runHours < 65535 →
      ∃ t, exec (.runHourRollover f) s = .next t ∧
        (r.state = .due → filterRecord t f =
          { r with
            runSeconds := 0
            runHours := r.runHours + 1
            hoursDue := min 720 (r.hoursDue + 1)
            state := if 720 ≤ r.hoursDue + 1 then .overdue else .due }) ∧
        (belowDue r.state = true → s.params.dueHours ≤ r.runHours + 1 ∨ s.params.dueVol ≤ r.volume →
          filterRecord t f =
            { r with runSeconds := 0, runHours := r.runHours + 1, state := .due, hoursDue := 0 }) ∧
        (r.state ≠ .due → r.runHours + 1 < s.params.dueHours → r.volume < s.params.dueVol →
          filterRecord t f = { r with runSeconds := 0, runHours := r.runHours + 1 }) ∧
        (f = .sup → (r.runHours + 1) % 24 = 0 → s.mpt.state = .idle → s.mpt.locationKnown = true →
          t.mpt.state = .saving)) ∧
    (r.state = .due → 720 ≤ r.hoursDue →
      ∃ t, exec (.dueHoursExpiry f) s = .next t ∧ filterRecord t f = { r with state := .overdue })

/-- The filter evaluation of a path at a second that fills no cubic metre and no run hour: the index (R93), LX and F_EXT's
held index (R95) with the ice index (R66), the state tests (R96, R97), the blocked timer (R98) and the capture qualification
(R100, R101). The blocked timer and the capture qualification at their ends (R98, R99, R101). -/
def Obligations.BlockedFilterAndReferenceCapture : Prop :=
  (∀ (s : State) (f : Fan) (r : FilterRecord) (e : Nat), inService s = true → s.fdr.timer = some e →
    r = filterRecord (passTime (seconds 1 - e) s) f →
    ∃ (t : State) (q : Nat) (x : FilterRecord) (measurable held : Bool), exec .fanEvaluation s = .next t ∧
      q = (fan t f).commanded ∧ x = filterRecord t f ∧
      (measurable = true ↔ (fan t f).state = .settled ∧ s.params.qMeasMin ≤ q ∧
        (channelValue s (pressureChannel f)).isSome = true) ∧
      (held = true ↔ f = .ext ∧ t.frg.icePossible = true) ∧ x.previousFlow = some q ∧
      (r.remainder + q < 10000 → r.runSeconds + 1 < 3600 →
        (∀ dp a b i : Nat, measurable = true → channelValue s (pressureChannel f) = some (dp : Int) →
          r.dpRef = some a → r.qRef = some b →
          i = min 255 (min 65535 (dp * b * b / (q * q)) * 64 / a - 64) →
          (f = .ext → t.flm.lx = i) ∧
          (held = true → x.index = r.index ∧ x.state = r.state ∧ x.blocked = r.blocked ∧
            t.frg.iceIndex = min 255 (i - r.index)) ∧
          (held = false → x.index = i ∧
            (belowDue r.state = true → s.params.dueIdx ≤ i → x.state = .due ∧ x.hoursDue = 0) ∧
            (r.state = .clean → i < s.params.dueIdx → x.state = if 16 ≤ i then .loading else .clean) ∧
            (r.state = .loading → i < s.params.dueIdx → x.state = if i < 8 then .clean else .loading) ∧
            (belowDue r.state = false → x.state = r.state) ∧
            (r.state ≠ .blocked → r.state ≠ .unreferenced →
              x.blocked = if s.params.blockIdx ≤ i then some (r.blocked.getD 0) else none))) ∧
        (measurable = false → r.referenced = true → x.index = r.index ∧ x.state = r.state ∧ x.blocked = r.blocked ∧
          (f = .ext → t.flm.lx = s.flm.lx)) ∧
        (r.referenced = true → x.capture = none ∧ x.dpRef = r.dpRef ∧ x.qRef = r.qRef) ∧
        (r.referenced = false →
          (measurable = false ∨ held = true ∨ r.previousFlow ≠ some q → x.capture = none ∧ x.dpRef = r.dpRef) ∧
          (∀ dp : Nat, measurable = true → held = false → r.previousFlow = some q →
            channelValue s (pressureChannel f) = some (dp : Int) →
            (r.capture = none → x.capture = some 0 ∧ x.dpRef = r.dpRef) ∧
            (∀ n, r.capture = some n → n + 1 < 60 → x.capture = some (n + 1) ∧ x.dpRef = r.dpRef) ∧
            (∀ n, r.capture = some n → 60 ≤ n + 1 →
              (5 ≤ dp → x.dpRef = some dp ∧ x.qRef = some q ∧ x.capture = none ∧
                (r.state = .unreferenced → x.state = .clean ∧ x.index = 0) ∧
                (r.state ≠ .unreferenced → x.state = r.state)) ∧
              (dp < 5 → x.capture = some 0 ∧ x.dpRef = r.dpRef)))))) ∧
  ∀ (s : State) (f : Fan) (r : FilterRecord) (e : Nat), inService s = true → r = filterRecord s f →
    (r.blocked = some e →
      ∃ t, exec (.blockedTimerExpiry f) s = .next t ∧ t.uptime = s.uptime + (seconds 600 - e) ∧
        filterRecord t f = { r with state := .blocked, blocked := none } ∧
        (faultRecord t .filterBlocked).active = true) ∧
    (∀ dp : Nat, r.capture = some e → 60 ≤ e → r.referenced = false →
      channelValue s (pressureChannel f) = some (dp : Int) →
      ∃ t, exec (.captureQualificationExpiry f) s = .next t ∧
        (5 ≤ dp → filterRecord t f =
          { r with
            dpRef := some dp
            qRef := some (fan s f).commanded
            capture := none
            state := if r.state = .unreferenced then .clean else r.state
            index := if r.state = .unreferenced then 0 else r.index }) ∧
        (dp < 5 → filterRecord t f = { r with capture := some 0 }))

/-- The FILTER button (R102) and the filter change (R103, R169), with the record block of its save (R170, R177). -/
def Obligations.FilterButtonAndFilterChange : Prop :=
  SavesBothRecords ∧
  ∀ (s : State) (e : Nat) (h : Bool), inService s = true →
    (s.flm.button = ⟨false, true, e, false⟩ →
      ∃ t, exec .filterDebounceExpiry s = .next t ∧ t.uptime = s.uptime + (millis 50 - e) ∧ t.flm.hold = some 0 ∧
        t.flm.button = ⟨false, false, 0, false⟩) ∧
    (s.flm.button = ⟨true, false, e, h⟩ →
      ∃ t, exec .filterDebounceExpiry s = .next t ∧ t.flm.hold = none ∧ t.flm.button = ⟨true, true, 0, false⟩) ∧
    (s.flm.hold = some e →
      ∃ t, exec .filterHoldExpiry s = .next t ∧ t.uptime = s.uptime + (seconds 5 - e) ∧ t.flm.hold = none ∧
        (∀ f, filterRecord t f =
          { FilterRecord.atPowerOn with previousFlow := (filterRecord s f).previousFlow }) ∧
        t.flm.lx = 0 ∧ t.frg.iceIndex = 0 ∧ (faultRecord t .filterBlocked).active = false ∧
        (s.mpt.state = .idle → s.mpt.locationKnown = true → t.mpt.state = .saving ∧
          t.mpt.save = some ⟨recordBlock t.flm.records, 0, false⟩) ∧
        (s.mpt.state = .idle → s.mpt.locationKnown = false → t.mpt.state = .idle ∧
          (faultRecord t .memoryWrite).active = true) ∧
        (s.mpt.state = .saving → t.mpt.savePending = true))

/-- A look at the memory during a byte's write, and a byte that fails (R170): no more is written, MEMORY_WRITE becomes
active, and the bytes stand as they stood, but for the one being written, which holds its old or its new value (R171, log 9). -/
def Obligations.SavePollsAndFailedBytes : Prop :=
  ∀ (s : State) (sv : Save) (status value : Byte) (e : Nat), inService s = true → s.mpt.save = some sv →
    Memory.wf s.memory = true →
    (sv.reading = false → s.mpt.savePoll = some e → status ≠ 0xFF → status.getLsbD 0 = true →
      ∃ t, exec (.saveStatusPoll status) s = .next t ∧ t.uptime = s.uptime + (millis 1 - e) ∧
        t.mpt.savePoll = some 0 ∧ t.mpt.save = some sv ∧ t.memory = s.memory) ∧
    (sv.reading = false → s.mpt.savePoll = some e → status ≠ 0xFF → status.getLsbD 0 = false →
      ∃ t, exec (.saveStatusPoll status) s = .next t ∧ t.mpt.save = some { sv with reading := true } ∧
        t.mpt.sent = [[0x05], [0x03, BitVec.ofNat 8 (226 + sv.place)]] ∧ t.memory = s.memory) ∧
    (∀ i, (i = .saveStatusPoll 0xFF ∧ sv.reading = false ∧ s.mpt.savePoll = some e) ∨
        (i = .saveByteTimeout ∧ sv.reading = false ∧ s.mpt.saveBusy = some e) ∨
        (i = .saveByteReadback value ∧ sv.reading = true ∧ value ≠ sv.bytes.getD sv.place 0) →
      ∃ t, exec i s = .next t ∧ (faultRecord t .memoryWrite).active = true ∧ t.flm.records.sup.state = s.flm.records.sup.state ∧
        (s.mpt.savePending = false → t.mpt.state = .idle ∧ t.mpt.save = none) ∧
        (s.mpt.savePending = true → t.mpt.state = .saving ∧ t.mpt.savePending = false ∧
          t.mpt.save = some ⟨recordBlock t.flm.records, 0, false⟩) ∧
        (i = .saveStatusPoll 0xFF → s.mpt.savePending = false → t.mpt.sent = [[0x05]]) ∧
        (i = .saveStatusPoll 0xFF → s.mpt.savePending = true → t.mpt.sent.head? = some [0x05]) ∧
        (∀ a, a ≠ 226 + sv.place → readByte t.memory a = readByte s.memory a) ∧
        (readByte t.memory (226 + sv.place) = readByte s.memory (226 + sv.place) ∨
          readByte t.memory (226 + sv.place) = sv.bytes.getD sv.place 0))

/-- A byte that reads back as written stands at its address, every other byte as before; the next byte is written, or the save
completes with MEMORY_WRITE and RECORDS_LOST inactive (R170). -/
def Obligations.SavedBytesStandInTheMemory : Prop :=
  ∀ (s : State) (sv : Save), inService s = true → s.mpt.save = some sv → sv.reading = true →
    Memory.wf s.memory = true →
    ∃ t, exec (.saveByteReadback (sv.bytes.getD sv.place 0)) s = .next t ∧
      readByte t.memory (226 + sv.place) = sv.bytes.getD sv.place 0 ∧
      (∀ a, a ≠ 226 + sv.place → readByte t.memory a = readByte s.memory a) ∧ Memory.wf t.memory = true ∧
      (sv.place + 1 < sv.bytes.length →
        t.mpt.state = .saving ∧ t.mpt.save = some ⟨sv.bytes, sv.place + 1, false⟩ ∧
          t.mpt.sent = [[0x06], [0x02, BitVec.ofNat 8 (226 + (sv.place + 1)), sv.bytes.getD (sv.place + 1) 0]]) ∧
      (sv.bytes.length ≤ sv.place + 1 → (faultRecord t .memoryWrite).active = false ∧
        (faultRecord t .recordsLost).active = false ∧ (s.mpt.savePending = false → t.mpt.state = .idle))

/-! ### Humidity evaluator -/

/-- The humidity evaluation (R107 to R112, R114 to R116), and what its requests do to the mode stack (R43, R51 to R53). -/
def Obligations.HumidityEvaluationFormsTheRequests : Prop :=
  PlacesByPriority ∧
  (∀ (p : Params) (m : Humidity) (tOut : Option Int) (i : Fin 4),
    operandValue m tOut .rhEta = m.ring[m.writeIndex - 1] ∧ operandValue m tOut .rise = m.rise ∧
    operandValue m tOut .tdEta = m.tdEta ∧ operandValue m tOut .tdOut = m.tdOut ∧ operandValue m tOut .tOut = tOut ∧
    operandValue m tOut .zero = some 0 ∧
    (ruleHolds p tOut m i = true ↔ ∃ a b, operandValue m tOut p.rules[i].left = some a ∧
      operandValue m tOut p.rules[i].right = some b ∧
      ((a < b + p.rules[i].offset ∧ p.rules[i].less = true) ∨ (a = b + p.rules[i].offset ∧ p.rules[i].equal = true) ∨
        (b + p.rules[i].offset < a ∧ p.rules[i].greater = true)))) ∧
  ∀ (s : State) (e : Nat), inService s = true → s.hev.timer = some e →
    ∃ t, exec .humidityEvaluation s = .next t ∧ t.uptime = s.uptime + (seconds 10 - e) ∧ t.hev.timer = some 0 ∧
      t.hev.ring = s.hev.ring.set s.hev.writeIndex (channelValue s .rhEta) ∧
      t.hev.writeIndex = s.hev.writeIndex + 1 ∧
      (∀ a b, channelValue s .rhEta = some a → t.hev.ring[t.hev.writeIndex] = some b → t.hev.rise = some (a - b)) ∧
      (channelValue s .rhEta = none ∨ t.hev.ring[t.hev.writeIndex] = none → t.hev.rise = none) ∧
      (∀ a b, channelValue s .tEta = some a → channelValue s .rhEta = some b →
        t.hev.tdEta = some (a - (1000 - limitInt 200 1000 b).tdiv 5)) ∧
      (∀ a b, s.odr.tOut = some a → s.odr.rhOut = some b →
        t.hev.tdOut = some (a - (1000 - limitInt 200 1000 b).tdiv 5)) ∧
      (s.odr.rhOut = none → t.hev.tdOut = none) ∧
      (∀ i : Fin 4, t.hev.counters[i] =
        if ruleHolds s.params s.odr.tOut t.hev i then min s.params.rules[i].n (s.hev.counters[i] + 1) else 0) ∧
      t.hev.boost = ((t.hev.counters[(0 : Fin 4)] == s.params.rules[(0 : Fin 4)].n ||
        t.hev.counters[(1 : Fin 4)] == s.params.rules[(1 : Fin 4)].n) &&
        !(t.hev.counters[(3 : Fin 4)] == s.params.rules[(3 : Fin 4)].n)) ∧
      t.hev.dry = (t.hev.counters[(2 : Fin 4)] == s.params.rules[(2 : Fin 4)].n) ∧
      (t.hev.boost = s.hev.boost → t.hev.dry = s.hev.dry → t.mst.above = s.mst.above) ∧
      (s.hev.boost = false → t.hev.boost = true → hasEntry t.mst .humBoost = true ∧ t.mst.boostCopy = true) ∧
      (s.hev.boost = false → t.hev.boost = true → t.hev.dry = s.hev.dry →
        (hasEntry s.mst .humBoost = false → t.mst.counter = s.mst.counter + 1 ∧
          t.mst.above = place ⟨.humBoost, 4, none, s.mst.counter⟩
            (s.mst.above.filter (fun x => x.origin != .humDry))) ∧
        (hasEntry s.mst .humBoost = true → t.mst.counter = s.mst.counter ∧
          t.mst.above = s.mst.above.map (fun x => if x.origin = .humBoost then { x with remaining := none } else x))) ∧
      (s.hev.boost = true → t.hev.boost = false → t.hev.dry = s.hev.dry → t.mst.boostCopy = false ∧
        t.mst.above = s.mst.above.map (fun x =>
          if x.origin = .humBoost then { x with remaining := some (60 * s.params.runOn) } else x)) ∧
      (t.hev.boost = s.hev.boost → s.hev.dry = false → t.hev.dry = true → t.mst.dryCopy = true ∧
        (s.mst.boostCopy = false → hasEntry s.mst .humBoost = false → hasEntry s.mst .humDry = false →
          t.mst.counter = s.mst.counter + 1 ∧
          t.mst.above = place ⟨.humDry, s.params.dryLevel, none, s.mst.counter⟩ s.mst.above) ∧
        (s.mst.boostCopy = true ∨ hasEntry s.mst .humBoost = true → t.mst.above = s.mst.above)) ∧
      (t.hev.boost = s.hev.boost → s.hev.dry = true → t.hev.dry = false → t.mst.dryCopy = false ∧
        t.mst.above = s.mst.above.filter (fun x => x.origin != .humDry)) ∧
      (s.hev.dry = true → t.hev.dry = false → hasEntry t.mst .humDry = false)

/-! ### Terrace line -/

/-- The idle space, and a dominant sample point before it (R122), which comes one bit time after the one before (R120) and
counts in a dominant run (R128). -/
def Obligations.IdleSpaceIsTenRecessiveBits : Prop :=
  ∀ s : State, inService s = true → s.lnc.state ≠ .off → s.lnc.phase = .waiting →
    (∃ t, exec .idleSpaceReached s = .next t ∧ t.uptime = s.uptime + (bitTimes 10 - s.lnc.idleRun) ∧
      t.lnc.phase = .idle ∧ t.lnc.idleRun = bitTimes 10 ∧ t.lnc.dominantRun = 0 ∧ t.lnc.stuckDeclared = false) ∧
    (∃ t, exec .dominantSampleInWaiting s = .next t ∧ t.lnc.phase = .waiting ∧ t.lnc.idleRun = 0 ∧
      (s.lnc.idleRun ≤ bitTimes 1 → t.lnc.dominantRun = min 33 (s.lnc.dominantRun + 1) ∧
        t.uptime = s.uptime + (if s.lnc.idleRun = 0 then bitTimes 1 else bitTimes 1 - s.lnc.idleRun)) ∧
      (bitTimes 1 < s.lnc.idleRun → t.lnc.dominantRun = 1) ∧
      t.lnc.capture = s.lnc.capture ∧ t.lnc.lastSender = s.lnc.lastSender)

/-- A contention begins (R122, R124, R130): who joins, with which slot's frame and arbitration field. The line and the level
the station drives on it (R120, R125): its frame's bit of the bit time while it is sending and has read every bit as sent,
released otherwise. -/
def Obligations.ContentionBeginLoadsTheFirstSlot : Prop :=
  (∀ (n i : Nat) (own others : List LineBit), i < n →
    (lineBits n own others)[i]? = some (own.getD i true && others.getD i true)) ∧
  (∀ (own : List LineBit) (failing : List Bool) (i : Nat), i < own.length →
    (pulled own failing)[i]? = some (own.getD i true || failing.getD i false)) ∧
  (∀ s : State, (s.powered = false ∨ s.lnc.shifter = none ∨ s.lnc.frameTime = none → lineDrive s = true) ∧
    ∀ f e, s.powered = true → s.lnc.shifter = some f → s.lnc.frameTime = some e →
      (s.lnc.read <+: frameOnLine f → e / 5 ≤ s.lnc.read.length → lineDrive s = (frameOnLine f).getD (e / 5) true) ∧
      (∀ j, j < e / 5 → j < s.lnc.read.length → j < (frameOnLine f).length → s.lnc.read[j]? ≠ (frameOnLine f)[j]? →
        lineDrive s = true)) ∧
  ∀ (s : State) (slot : Slot) (f : Frame) (p : Position) (others : List LineBit) (failing : List Bool),
    inService s = true → s.lnc.state ≠ .off → s.lnc.phase = .idle →
    (∃ t, exec (.contentionBegin ⟨false, others, failing⟩) s = .next t ∧ t.lnc.phase = .inFrame ∧
      t.lnc.frameTime = some 0 ∧ t.lnc.read = [false] ∧ t.lnc.others = others ∧ t.lnc.failing = failing ∧
      t.lnc.urgent = s.lnc.urgent ∧ t.lnc.reply = s.lnc.reply ∧ t.lnc.stateSlot = s.lnc.stateSlot ∧
      (s.lnc.state ≠ .active ∨ slotsEmpty s.lnc → t.lnc.shifter = none ∧ t.lnc.mark = none ∧ lineDrive t = true) ∧
      (s.lnc.state = .active → s.params.position = some p → slotFrame s.lnc slot = some f →
        (slot = .urgent ∨ (s.lnc.urgent = none ∧ (slot = .reply ∨ s.lnc.reply = none))) →
        t.lnc.shifter = some ⟨f, p - s.lnc.lastSender - 1, p⟩ ∧ t.lnc.mark = some slot ∧ lineDrive t = false)) ∧
    (s.lnc.state ≠ .active ∨ slotsEmpty s.lnc →
      ∃ t, exec (.contentionBegin ⟨true, others, failing⟩) s = .next t ∧ t.lnc.phase = .idle ∧
        t.lnc.idleRun = bitTimes 10 ∧ t.lnc.shifter = s.lnc.shifter)

/-- A lost contention (R125, R130), at the arbitration bit that the sender's comparison finds dominant: the station stops
driving and reads on, its slots keep their frames, no failure is counted. -/
def Obligations.LostContentionKeepsTheSlot : Prop :=
  ComparesBitByBit ∧
  ∀ (s : State) (bit : Fin 9) (d : Nat), inService s = true → comparison s.lnc = some (d, .lost bit) →
    ∃ t, exec (.contentionLost bit) s = .next t ∧ t.uptime = s.uptime + d ∧
      t.lnc = { (passTime d s).lnc with shifter := none, mark := none } ∧ lineDrive t = true ∧
      t.lnc.urgent = s.lnc.urgent ∧ t.lnc.reply = s.lnc.reply ∧ t.lnc.stateSlot = s.lnc.stateSlot ∧
      t.lnc.failures = s.lnc.failures ∧ t.srf.faults = s.srf.faults

/-- A BIT_ERROR (R131, R135, R137, R138), at the bit where the sender's comparison finds it. -/
def Obligations.BitErrorAbandonsTheFrame : Prop :=
  ComparesBitByBit ∧
  ∀ (s : State) (f : ShiftedFrame) (d : Nat), inService s = true → s.lnc.shifter = some f →
    comparison s.lnc = some (d, .bitError) →
    ∃ t, exec .bitError s = .next t ∧ t.uptime = s.uptime + d ∧ t.lnc.shifter = none ∧ t.lnc.mark = none ∧
      lineDrive t = true ∧ t.lnc.phase = .waiting ∧ t.lnc.idleRun = 0 ∧
      t.lnc.urgent = s.lnc.urgent ∧ t.lnc.reply = s.lnc.reply ∧ t.lnc.lastSender = s.lnc.lastSender ∧
      (s.frg.state ≠ .intent → t.lnc.stateSlot = s.lnc.stateSlot) ∧
      (faultRecord t .lineErrors).active = true ∧
      (faultRecord t .lineErrors).count = min 255 ((faultRecord s .lineErrors).count + 1) ∧
      (faultRecord t .lineErrors).last = runClock (passTime d s) ∧
      (s.lnc.capture = none →
        t.lnc.capture = some ⟨.bitError, some f.sender, some f.frame.kind, runClock (passTime d s)⟩) ∧
      (s.lnc.capture ≠ none → t.lnc.capture = s.lnc.capture) ∧
      (s.lnc.failures < 2 → t.lnc.failures = s.lnc.failures + 1 ∧ t.lnc.state = s.lnc.state) ∧
      (s.lnc.failures = 2 → t.lnc.failures = 3 ∧ t.lnc.state = .quiet ∧ t.lnc.quiet = some 0 ∧
        (s.frg.state = .intent → combustionFlag s = false → s.lnc.state ≠ .quiet →
          t.frg.state = .thawB ∧ t.frg.denial = some .line))

/-- An own frame's success at its last end bit, where every bit reads back as sent (R131, R130). A command of the end of a
sending that the sender's comparison does not come to changes nothing. -/
def Obligations.FrameSuccessEmptiesTheMarkedSlot : Prop :=
  ComparesBitByBit ∧
  (∀ (s : State) (f : ShiftedFrame) (e d : Nat), inService s = true → s.lnc.shifter = some f →
    s.lnc.frameTime = some e → comparison s.lnc = some (d, .success) →
    ∃ t, exec .frameSuccess s = .next t ∧
      t.uptime = s.uptime + (bitTimes ((stuffedFrame f).length + 7) - e) ∧
      t.lnc.lastSender = f.sender ∧ t.lnc.failures = 0 ∧ t.lnc.shifter = none ∧ t.lnc.mark = none ∧
      t.lnc.phase = .waiting ∧ t.lnc.idleRun = 0 ∧ (faultRecord t .lineErrors).active = false ∧
      (∀ slot, slotFrame t.lnc slot = if s.lnc.mark = some slot then none else slotFrame s.lnc slot) ∧
      t.ptb.entries = s.ptb.entries) ∧
  ∀ (s : State) (i : Instr) (v : SendVerdict), inService s = true → sendVerdictOf i = some v →
    (∀ d, comparison s.lnc ≠ some (d, v)) →
    ∃ t, exec i s = .next t ∧ t.lnc = s.lnc ∧ t.uptime = s.uptime ∧ t.srf.faults = s.srf.faults

/-- A discarded frame is one line fault at the moment its reception ends (R126, R137, R138), and so is a stuck line (R128),
declared once: in a reception at the 33rd dominant sample point in a row, and in WAITING where 33 have come. -/
def Obligations.DiscardedFramesAreLineFaults : Prop :=
  (∀ (m : LineController) (f : ShiftedFrame) (k : Nat) (rest : List LineBit), m.shifter = none → m.read = [false] →
    m.frameTime = some 0 → f.frame.payload.length ≤ 63 → 0 < k → k < 7 →
    m.others = (stuffedFrame f).tail ++ List.replicate k true ++ List.replicate 33 false ++ rest →
    reception m = some (bitTimes ((stuffedFrame f).length + k + 33), .stuck)) ∧
  (∀ (s : State) (sender : Position) (kind : BitVec 3) (who : Option Position) (what : Option (BitVec 3)) (d : Nat),
    inService s = true → s.lnc.state ≠ .off → s.lnc.shifter = none →
    ∀ i fault from' kind', ((∃ v, verdictOf i = some v ∧ reception s.lnc = some (d, v)) ∧ s.lnc.phase ≠ .waiting ∧
        ((i = .stuffingViolation who what ∧ fault = .formError ∧ from' = who ∧ kind' = what.bind kindOfCode) ∨
        (i = .crcError sender kind ∧ fault = .crcError ∧ from' = some sender ∧ kind' = kindOfCode kind) ∨
        (i = .formError sender kind ∧ fault = .formError ∧ from' = some sender ∧ kind' = kindOfCode kind) ∨
        (i = .frameTimeout sender kind ∧ fault = .frameTimeout ∧ from' = some sender ∧ kind' = kindOfCode kind) ∨
        (i = .stuck ∧ fault = .stuck ∧ from' = none ∧ kind' = none))) ∨
        (i = .stuck ∧ s.lnc.phase = .waiting ∧ s.lnc.frameTime = none ∧ s.lnc.idleRun = 0 ∧ s.lnc.dominantRun = 33 ∧
          s.lnc.stuckDeclared = false ∧ fault = .stuck ∧ from' = none ∧ kind' = none ∧ d = 0) →
      ∃ t, exec i s = .next t ∧ t.uptime = s.uptime + d ∧
        t.lnc.phase = .waiting ∧ t.lnc.idleRun = 0 ∧ t.lnc.frameTime = none ∧ t.lnc.lastSender = s.lnc.lastSender ∧
        t.lnc.failures = s.lnc.failures ∧ t.lnc.state = s.lnc.state ∧ t.ptb.entries = s.ptb.entries ∧
        (s.lnc.phase ≠ .waiting → t.lnc.dominantRun = min 33 (dominantAtEnd (passTime d s).lnc.read)) ∧
        (i = .stuck → t.lnc.stuckDeclared = true) ∧
        (faultRecord t .lineErrors).active = true ∧
        (faultRecord t .lineErrors).count = min 255 ((faultRecord s .lineErrors).count + 1) ∧
        (s.lnc.capture = none → t.lnc.capture = some ⟨fault, from', kind', runClock (passTime d s)⟩) ∧
        (s.lnc.capture ≠ none → t.lnc.capture = s.lnc.capture)) ∧
  ∀ s : State, inService s = true → s.lnc.phase = .waiting → s.lnc.frameTime = none →
    s.lnc.stuckDeclared = true ∨ s.lnc.dominantRun ≠ 33 →
    ∃ t, exec .stuck s = .next t ∧ t.lnc = s.lnc ∧ t.uptime = s.uptime ∧ t.srf.faults = s.srf.faults

/-- A frame on the line is read as it was sent (R120, R121, R123, R126), with IN_END after its stuffed part (R122). STATE,
INTENT and END frames of accepted positions (R127, R142, R143, R144): the last sender, LINE_ERRORS, and the sender's entry; an
entry of another position is not changed, and neither is any by an unusable frame. What the plume flag, the terrace
references and the effective outdoor values become (R147, R149 to R152), and what an ADJ entry does to the guard (R158, R161). -/
def Obligations.NeighbourFramesSetTheirEntry : Prop :=
  (∀ (m : LineController) (f : ShiftedFrame), m.shifter = none → m.read = [false] → m.others = (frameOnLine f).tail →
    m.frameTime = some 0 → f.frame.payload.length ≤ 63 →
    reception m = some (bitTimes ((stuffedFrame f).length + 7), .correct f.frame.kind f.sender f.frame.payload) ∧
    (m.phase = .inFrame → (m.pass (bitTimes (stuffedFrame f).length)).phase = .inEnd)) ∧
  TakesTheLowerMedian ∧ ReadsPayloads ∧
  ∀ (s : State) (sender : Position) (payload : List Byte) (d : Nat), inService s = true → s.lnc.state ≠ .off →
    s.lnc.shifter = none → s.params.position ≠ some sender →
    ∀ i kind (entry : Option PeerEntry), reception s.lnc = some (d, .correct kind sender payload) →
      (i = .stateFrame sender payload ∧ kind = .state ∧ entry = (readState payload).map (fun c =>
          ⟨sender, c.announcement, c.urgency, c.outdoorT, c.outdoorRH, c.plume, c.boosting, c.exhaustRH, 0⟩)) ∨
        (i = .intentFrame sender payload ∧ kind = .intent ∧ entry = (readIntent payload).map (fun u =>
          { (findEntry sender s.ptb.entries).getD ⟨sender, .none, none, none, none, false, false, none, 0⟩ with
            announcement := .intent, urgency := some u, age := 0 })) ∨
        (i = .endFrame sender payload ∧ kind = .endThaw ∧ entry = if payload = [] then some
          { (findEntry sender s.ptb.entries).getD ⟨sender, .none, none, none, none, false, false, none, 0⟩ with
            announcement := .none, urgency := none, age := 0 } else none) →
      ∃ t, exec i s = .next t ∧ t.uptime = s.uptime + d ∧ t.lnc.lastSender = sender ∧
        (faultRecord t .lineErrors).active = false ∧ t.lnc.phase = .waiting ∧ t.lnc.idleRun = 0 ∧
        (∀ x, acceptedPosition s.params sender = true → entry = some x → findEntry sender t.ptb.entries = some x) ∧
        (acceptedPosition s.params sender = false ∨ entry = none → t.ptb.entries = s.ptb.entries) ∧
        (∀ q, q ≠ sender → findEntry q t.ptb.entries = findEntry q s.ptb.entries) ∧
        (acceptedPosition s.params sender = true → entry ≠ none → OutdoorInEffect t) ∧
        (acceptedPosition s.params sender = false ∨ entry = none → t.odr = (passTime d s).odr) ∧
        (∀ x, entry = some x → inSet s.params.plume sender = true →
          (∃ y ∈ t.ptb.entries, inSet s.params.plume y.position = true ∧ y.boosting = true ∧
            ∃ rh, y.exhaustRH = some rh ∧ s.params.plumeRH ≤ rh) → t.odr.plume = true ∧ t.odr.plumeHold = some 0) ∧
        (inSet s.params.plume sender = false ∨ (∀ y ∈ t.ptb.entries, inSet s.params.plume y.position = true → y.boosting = true →
            ∀ rh, y.exhaustRH = some rh → rh < s.params.plumeRH) →
          t.odr.plume = s.odr.plume ∧ t.odr.plumeHold = (passTime d s).odr.plumeHold) ∧
        (∀ x, entry = some x → inSet s.params.ref sender = true →
          t.odr.tRef = lowerMedian (t.ptb.entries.filterMap fun y =>
            if inSet s.params.ref y.position && !y.plume then y.outdoorT else none) ∧
          t.odr.rhRef = lowerMedian (t.ptb.entries.filterMap fun y =>
            if inSet s.params.ref y.position && !y.plume then y.outdoorRH else none)) ∧
        (∀ x, entry = some x → inSet s.params.adj sender = true → combustionFlag s = false →
          (s.frg.state = .intent → s.lnc.state = .active →
            (x.announcement = .thawU → t.frg.state = .thawB ∧ t.frg.denial = some .peerThaw) ∧
            (x.announcement = .intent → entryPrecedes s x = true →
              (∀ y ∈ t.ptb.entries, inSet s.params.adj y.position = true → y.announcement ≠ .thawU) →
              t.frg.state = .thawB ∧ t.frg.denial = some .peerPrecedence) ∧
            ((∀ y ∈ t.ptb.entries, inSet s.params.adj y.position = true → y.announcement ≠ .thawU ∧
              (y.announcement = .intent → entryPrecedes s y = false)) → t.frg.state = .intent)) ∧
          (s.frg.state = .thawU →
            (x.announcement = .thawU → entryPrecedes s x = true →
              t.frg.state = .thawB ∧ t.frg.thaw = (passTime d s).frg.thaw ∧ t.frg.urgency = s.frg.urgency) ∧
            (x.announcement ≠ .thawU ∨ entryPrecedes s x = false → t.frg.state = .thawU))) ∧
        (s.frg.state ≠ .intent → s.frg.state ≠ .thawU → t.frg.state = s.frg.state)

/-- A REPLY is not handed on (R127), and a correct frame with the station's own position is a duplicate (R136). -/
def Obligations.ReplyFramesAndDuplicatePositions : Prop :=
  ∀ (s : State) (sender : Position) (payload : List Byte) (d : Nat), inService s = true → s.lnc.state ≠ .off →
    s.lnc.shifter = none →
    (s.params.position ≠ some sender → reception s.lnc = some (d, .correct .reply sender payload) →
      ∃ t, exec (.replyFrame sender payload) s = .next t ∧ t.uptime = s.uptime + d ∧ t.lnc.lastSender = sender ∧
        t.lnc.phase = .waiting ∧ (faultRecord t .lineErrors).active = false ∧ t.ptb = (passTime d s).ptb ∧
        t.frg = (passTime d s).frg ∧ t.lnc.reply = s.lnc.reply) ∧
    (∀ i v, frameSender i = some sender → verdictOf i = some v → reception s.lnc = some (d, v) →
      s.params.position = some sender → s.lnc.duplicate = false →
      ∃ t, exec i s = .next t ∧ t.uptime = s.uptime + d ∧ t.lnc.lastSender = sender ∧ t.lnc.state = .listen ∧
        t.lnc.duplicate = true ∧ t.lnc.listenIn = none ∧ t.lnc.quiet = none ∧
        (faultRecord t .duplicatePosition).active = true ∧ t.frg.state ≠ .thawU ∧ t.ptb = (passTime d s).ptb ∧
        (t.mpt.configResult = .ok → t.srf.faultLamp.pattern = .tripleFlash))

/-- QUERY frames (R172): a REPLY is staged for a well-formed query of this ACTIVE station, with code RANGE and no records where
start + count passes the space's size, and never with a record outside the space; any other query stages nothing: a line
state other than ACTIVE, a payload of another length, another target, a code that is not the space's. The records' fields and
widths (11.6, R176). -/
def Obligations.QueriesStageAReply : Prop :=
  LaysOutRecords ∧
  ∀ (s : State) (space : Space) (sender : Position) (payload : List Byte) (d : Nat),
    inService s = true → s.lnc.state ≠ .off → s.lnc.shifter = none → s.params.position ≠ some sender →
    reception s.lnc = some (d, .correct .query sender payload) →
    ∃ t, exec (queryOf space sender payload) s = .next t ∧ t.uptime = s.uptime + d ∧ t.lnc.lastSender = sender ∧
      (∀ own target code start count, s.lnc.state = .active → s.params.position = some own →
        payload = [target, code, start, count] → target.toNat = own.toNat → code.toNat = spaceCode space →
        (spaceSize space < start.toNat + count.toNat →
          t.lnc.reply = some ⟨.reply, [BitVec.ofNat 8 (spaceCode space * 32 + 16), start]⟩) ∧
        (start.toNat + count.toNat ≤ spaceSize space →
          ∃ n records, n = min count.toNat (spaceFit space) ∧ start.toNat + n ≤ spaceSize space ∧
            records = ((List.range n).flatMap fun k =>
              packBytes (recordBits (heardState sender (passTime d s)) space (start.toNat + k))) ∧
            t.lnc.reply = some ⟨.reply, [BitVec.ofNat 8 (spaceCode space * 32 + n), start] ++ records⟩)) ∧
      (s.lnc.state ≠ .active → t.lnc.reply = s.lnc.reply) ∧
      (payload.length ≠ 4 → t.lnc.reply = s.lnc.reply) ∧
      (∀ target, payload.head? = some target → (∀ own, s.params.position = some own → target.toNat ≠ own.toNat) →
        t.lnc.reply = s.lnc.reply) ∧
      (∀ code : Byte, payload[1]? = some code → code.toNat ≠ spaceCode space → t.lnc.reply = s.lnc.reply)

/-- CLEAR frames (R173, R36, R138), and a CLEAR with another target or an unknown item, which changes none of it. -/
def Obligations.ClearsActAtTheFrame : Prop :=
  ∀ (s : State) (sender own : Position) (target : Byte) (d : Nat), inService s = true → s.lnc.state = .active →
    s.lnc.shifter = none → s.params.position = some own → own ≠ sender → target.toNat = own.toNat →
    (reception s.lnc = some (d, .correct .clear sender [target, 0]) →
      ∃ t, exec (.clearLineCapture sender [target, 0]) s = .next t ∧ t.uptime = s.uptime + d ∧ t.lnc.capture = none ∧
        t.lnc.lastSender = sender ∧ t.lnc.reply = s.lnc.reply) ∧
    (reception s.lnc = some (d, .correct .clear sender [target, 1]) →
      ∃ t, exec (.clearFaultCounts sender [target, 1]) s = .next t ∧ t.uptime = s.uptime + d ∧
        (∀ k, k ≠ .lineErrors → (faultRecord s k).active = true → faultRecord t k = faultRecord s k) ∧
        (∀ k, k = .lineErrors ∨ (faultRecord s k).active = false → faultRecord t k = ⟨false, 0, 0, 0⟩) ∧
        t.msc.channels = (passTime d s).msc.channels) ∧
    (reception s.lnc = some (d, .correct .clear sender [target, 2]) →
      ∃ t, exec (.clearFanRetry sender [target, 2]) s = .next t ∧ t.uptime = s.uptime + d ∧
        (∀ f, (fan s f).state = .fault →
          fan t f = { fan s f with
            state := .running, retryCount := 0, settle := 0, stall := 0, retryPause := none }) ∧
        (∀ f, (fan s f).state ≠ .fault → fan t f = { fan (passTime d s) f with retryCount := 0 }) ∧
        (∀ f, faultRecord t (.fan f) = faultRecord s (.fan f))) ∧
    (∀ i payload item, (i = .clearLineCapture sender payload ∧ item = 0) ∨
        (i = .clearFaultCounts sender payload ∧ item = 1) ∨ (i = .clearFanRetry sender payload ∧ item = 2) →
      reception s.lnc = some (d, .correct .clear sender payload) →
      (∀ target code : Byte, payload = [target, code] → target.toNat = own.toNat → code.toNat ≠ item) →
      ∃ t, exec i s = .next t ∧ t.uptime = s.uptime + d ∧ t.lnc.lastSender = sender ∧ t.lnc.capture = s.lnc.capture ∧
        (∀ k, k ≠ .lineErrors → faultRecord t k = faultRecord s k) ∧ t.fdr = (passTime d s).fdr)

/-- The quiet timer, the listen-in and the STATE period at their ends (R135, R134, R132), and the payload of the STATE frame then
composed (R85, R132, 11.5). -/
def Obligations.LineTimersMoveTheLine : Prop :=
  WritesStatePayloads ∧
  ∀ (s : State) (e : Nat), inService s = true →
    (s.lnc.state = .quiet → s.lnc.quiet = some e →
      ∃ t, exec .quietTimerExpiry s = .next t ∧ t.uptime = s.uptime + (seconds 30 - e) ∧ t.lnc.state = .active ∧
        t.lnc.failures = 0 ∧ t.lnc.quiet = none ∧ t.lnc.urgent = s.lnc.urgent) ∧
    (s.lnc.state = .listen → s.lnc.listenIn = some e →
      ∃ t, exec .listenInExpiry s = .next t ∧ t.uptime = s.uptime + (seconds 20 - e) ∧ t.lnc.state = .active ∧
        t.lnc.listenIn = none) ∧
    (s.lnc.state ≠ .off → s.lnc.statePeriod = some e →
      ∃ t, exec .statePeriodExpiry s = .next t ∧ t.uptime = s.uptime + (seconds 10 - e) ∧
        t.lnc.statePeriod = some 0 ∧ t.lnc.stateSlot = some ⟨.state, stateBytes (stateContent t)⟩ ∧
        t.lnc.urgent = s.lnc.urgent ∧ t.lnc.reply = s.lnc.reply)

/-! ### Peer table, outdoor resolver and lamps -/

/-- The ageing tick and the removal of an entry (R145, R147, R150), with the effective outdoor values (R151, R152). -/
def Obligations.AgeingTickRaisesAndRemoves : Prop :=
  ∀ (s : State) (e : Nat), inService s = true →
    (s.ptb.timer = some e →
      ∃ t, exec .ageingTick s = .next t ∧ t.uptime = s.uptime + (seconds 10 - e) ∧ t.ptb.timer = some 0 ∧
        t.ptb.entries = (s.ptb.entries.map fun x => { x with age := x.age + 1 }).filter
          (fun x => decide (x.age < 2 ^ s.params.peerExp - 1)) ∧
        ((∃ x ∈ t.ptb.entries, inSet s.params.plume x.position = true ∧ x.boosting = true ∧
            ∃ rh, x.exhaustRH = some rh ∧ s.params.plumeRH ≤ rh) → t.odr.plume = true ∧ t.odr.plumeHold = some 0) ∧
        OutdoorInEffect t) ∧
    (∀ p, (∃ x ∈ s.ptb.entries, x.position = p ∧ 2 ^ s.params.peerExp - 1 ≤ x.age) →
      ∃ t, exec (.peerEntryExpiry p) s = .next t ∧
        t.ptb.entries = s.ptb.entries.filter
          (fun x => !(x.position == p && decide (2 ^ s.params.peerExp - 1 ≤ x.age))) ∧
        t.odr.tRef = lowerMedian (referenceValues t PeerEntry.outdoorT) ∧
        t.odr.rhRef = lowerMedian (referenceValues t PeerEntry.outdoorRH) ∧ OutdoorInEffect t)

/-- The plume hold ends (R147), and the effective values follow (R151). -/
def Obligations.PlumeHoldEndsWithTheOwnSensors : Prop :=
  ∀ (s : State) (e : Nat), inService s = true → s.odr.plumeHold = some e →
    ∃ t, exec .plumeHoldExpiry s = .next t ∧ t.uptime = s.uptime + (seconds 120 - e) ∧ t.odr.plume = false ∧
      t.odr.plumeHold = none ∧ t.odr.tRef = s.odr.tRef ∧ t.odr.rhRef = s.odr.rhRef ∧ OutdoorInEffect t ∧
      (∀ v, channelValue s .tOda = some v → t.odr.tOut = some v ∧ t.odr.tTag = some .own) ∧
      (∀ v, channelValue s .tOda = none → s.odr.tRef = some v → t.odr.tOut = some v ∧ t.odr.tTag = some .terrace) ∧
      (channelValue s .tOda = none → s.odr.tRef = none → t.odr.tOut = some (-200) ∧ t.odr.tTag = some .constant) ∧
      (∀ v, channelValue s .rhOda = some v → t.odr.rhOut = some v ∧ t.odr.rhTag = some .own) ∧
      (∀ v, channelValue s .rhOda = none → s.odr.rhRef = some v →
        t.odr.rhOut = some v ∧ t.odr.rhTag = some .terrace) ∧
      (channelValue s .rhOda = none → s.odr.rhRef = none → t.odr.rhOut = none ∧ t.odr.rhTag = some .absent)

/-- The lamps' patterns by their causes, followed at every command (R175); a level on a pin changes no cause. A flashing lamp's
steps: the FILTER lamp 500 ms on and 500 ms off; the FAULT lamp two or three flashes of 200 ms,
200 ms apart, in a cycle of 2 s. -/
def Obligations.FlashingLampsStep : Prop :=
  LampsByCause ∧
  (∀ (i : Instr) (s t : State), exec i s = .next t → inService t = true → (∀ pin high, i ≠ .inputLevelChange pin high) →
    LampsFollow t) ∧
  (∀ (pin : InputPin) (high : Bool) (s t : State), exec (.inputLevelChange pin high) s = .next t →
    LampsFollow s → LampsFollow t) ∧
  ∀ (s : State) (e n : Nat), inService s = true →
    (∀ next, (n = 0 ∧ next = 1) ∨ (n = 1 ∧ next = 0) → s.srf.filterLamp = ⟨.flash, n, e⟩ → filterPattern s = .flash →
      ∃ t, exec (.lampFlashStep .filter) s = .next t ∧ t.uptime = s.uptime + (millis 500 - e) ∧
        t.srf.filterLamp = ⟨.flash, next, 0⟩ ∧ lampLit s.srf.filterLamp = (n == 0) ∧
        lampLit t.srf.filterLamp = (next == 0)) ∧
    (∀ next time, (n ≤ 2 ∧ next = n + 1 ∧ time = 200) ∨ (n = 3 ∧ next = 0 ∧ time = 1400) →
      s.srf.faultLamp = ⟨.doubleFlash, n, e⟩ → faultPattern s = .doubleFlash →
      ∃ t, exec (.lampFlashStep .fault) s = .next t ∧ t.uptime = s.uptime + (millis time - e) ∧
        t.srf.faultLamp = ⟨.doubleFlash, next, 0⟩ ∧ lampLit s.srf.faultLamp = (n == 0 || n == 2) ∧
        lampLit t.srf.faultLamp = (next == 0 || next == 2)) ∧
    (∀ next time, (n ≤ 4 ∧ next = n + 1 ∧ time = 200) ∨ (n = 5 ∧ next = 0 ∧ time = 1000) →
      s.srf.faultLamp = ⟨.tripleFlash, n, e⟩ → faultPattern s = .tripleFlash →
      ∃ t, exec (.lampFlashStep .fault) s = .next t ∧ t.uptime = s.uptime + (millis time - e) ∧
        t.srf.faultLamp = ⟨.tripleFlash, next, 0⟩ ∧ lampLit s.srf.faultLamp = (n == 0 || n == 2 || n == 4) ∧
        lampLit t.srf.faultLamp = (next == 0 || next == 2 || next == 4))

/-! ### Frames: what a command does not own -/

/-- Only the byte writes of a save and the supply touch the serial memory: after any other command every address reads as
before (R170, R171). -/
def Obligations.OnlySavesTouchTheMemory : Prop :=
  ∀ (i : Instr) (s t : State), exec i s = .next t → writesMemory i = false →
    t.memory = s.memory ∧ ∀ a, readByte t.memory a = readByte s.memory a

/-- A block's state is changed by its own events only: the mode entries, the channel records, the peer entries, the humidity
ring and requests, the last sender, the parameters, the fans, the filter records' counts and references, the frost load, the
line state with its failures, capture and duplicate flag, and the outdoor values. -/
def Obligations.BlocksAreChangedByTheirOwnEvents : Prop :=
  ∀ (i : Instr) (s t : State), exec i s = .next t →
    (movesStack i = false → t.mst.above = s.mst.above ∧ t.mst.base = s.mst.base ∧ t.mst.counter = s.mst.counter) ∧
    (samplesChannels i = false → ∀ ch, channelValue t ch = channelValue s ch ∧
      (channel t ch).state = (channel s ch).state ∧ (channel t ch).reason = (channel s ch).reason ∧
      (channel t ch).goodRun = (channel s ch).goodRun) ∧
    (changesPeers i = false → t.ptb.entries = s.ptb.entries) ∧
    (i ≠ .humidityEvaluation → ofSupply i = false → t.hev.ring = s.hev.ring ∧ t.hev.counters = s.hev.counters ∧
      t.hev.boost = s.hev.boost ∧ t.hev.dry = s.hev.dry) ∧
    (movesLastSender i = false → t.lnc.lastSender = s.lnc.lastSender) ∧
    (mayComplete i = false → ofSupply i = false → t.params = s.params) ∧
    (movesFans i = false → ∀ f, (fan t f).target = (fan s f).target ∧ (fan t f).commanded = (fan s f).commanded ∧
      (fan t f).duty = (fan s f).duty ∧ (fan t f).state = (fan s f).state ∧
      (fan t f).retryCount = (fan s f).retryCount) ∧
    (countsFilters i = false → ∀ f, (filterRecord t f).volume = (filterRecord s f).volume ∧
      (filterRecord t f).remainder = (filterRecord s f).remainder ∧
      (filterRecord t f).runHours = (filterRecord s f).runHours ∧
      (filterRecord t f).runSeconds = (filterRecord s f).runSeconds ∧
      (filterRecord t f).dpRef = (filterRecord s f).dpRef ∧ (filterRecord t f).qRef = (filterRecord s f).qRef) ∧
    (movesLoad i = false → t.frg.load = s.frg.load) ∧
    (movesLine i = false → t.lnc.state = s.lnc.state ∧ t.lnc.failures = s.lnc.failures ∧
      t.lnc.capture = s.lnc.capture ∧ t.lnc.duplicate = s.lnc.duplicate) ∧
    (movesOutdoor i = false → t.odr.plume = s.odr.plume ∧ t.odr.tRef = s.odr.tRef ∧ t.odr.rhRef = s.odr.rhRef ∧
      t.odr.tOut = s.odr.tOut ∧ t.odr.tTag = s.odr.tTag ∧ t.odr.rhOut = s.odr.rhOut ∧ t.odr.rhTag = s.odr.rhTag)

/-! ### Encodings and invariants -/

/-- Removing stuff bits gives back what was stuffed (R121). -/
def Obligations.DestuffingUndoesStuffing : Prop := ∀ bits : List Bool, destuff (stuff bits) = some bits

/-- The balance law is kept by every step (R26, R79). -/
def Obligations.BalanceLawIsKept : Prop := ∀ s t : State, BalanceInv s → step s = .next t → BalanceInv t

/-- The duty law is kept by every step (R31). -/
def Obligations.DutyLawIsKept : Prop := ∀ s t : State, DutyInv s → step s = .next t → DutyInv t

/-- The preheater law is kept by every step, and its invariant gives the law (R70). -/
def Obligations.PreheaterLawIsKept : Prop :=
  (∀ s : State, PreheaterInv s → PreheaterLaw s) ∧ ∀ s t : State, PreheaterInv s → step s = .next t → PreheaterInv t

/-- The mode stack's law is kept by every step, and it holds the stack to five entries (R43). -/
def Obligations.ModeStackLawIsKept : Prop :=
  (∀ m : ModeStack, StackLaw m → m.above.length ≤ 4) ∧
    ∀ s t : State, StackLaw s.mst → step s = .next t → StackLaw t.mst

/-- The silent-state law is kept by every step (R133). -/
def Obligations.SilentStateLawIsKept : Prop := ∀ s t : State, SilentInv s → step s = .next t → SilentInv t

/-- The canonical form of the serial memory is kept by every step. -/
def Obligations.MemoryStaysCanonical : Prop := ∀ s t : State, MemoryLaw s → step s = .next t → MemoryLaw t

/-- The peer table's law (at most one entry per position, none for the own position or for position 15, only accepted
positions), the counter law and the frost-load law are kept by every step (R142, R114, R64). -/
def Obligations.TableCounterAndLoadLawsAreKept : Prop :=
  ∀ s t : State, step s = .next t →
    (PeerInv s → PeerInv t) ∧ (CounterInv s → CounterInv t) ∧ (LoadLaw s → LoadLaw t)

/-- Every invariant holds at reset. -/
def Obligations.ResetMeetsEveryInvariant : Prop :=
  BalanceInv State.reset ∧ DutyInv State.reset ∧ PreheaterInv State.reset ∧ StackLaw State.reset.mst ∧
    SilentInv State.reset ∧ MemoryLaw State.reset ∧ PeerInv State.reset ∧ CounterInv State.reset ∧
    LoadLaw State.reset
end

