-- ==== Sys2Proof/Laws/State.lean ====
section
/-! SUPPORT. What the setters of one block leave alone: one lemma per field, each true by definition. -/

namespace Sys2Proof.Machine

@[simp] theorem setFault_powered (s : State) (k : FaultKind) (r : FaultRecord) : (setFault s k r).powered = s.powered := rfl
@[simp] theorem setFault_uptime (s : State) (k : FaultKind) (r : FaultRecord) : (setFault s k r).uptime = s.uptime := rfl
@[simp] theorem setFault_params (s : State) (k : FaultKind) (r : FaultRecord) : (setFault s k r).params = s.params := rfl
@[simp] theorem setFault_msc (s : State) (k : FaultKind) (r : FaultRecord) : (setFault s k r).msc = s.msc := rfl
@[simp] theorem setFault_fdr (s : State) (k : FaultKind) (r : FaultRecord) : (setFault s k r).fdr = s.fdr := rfl
@[simp] theorem setFault_mst (s : State) (k : FaultKind) (r : FaultRecord) : (setFault s k r).mst = s.mst := rfl
@[simp] theorem setFault_frg (s : State) (k : FaultKind) (r : FaultRecord) : (setFault s k r).frg = s.frg := rfl
@[simp] theorem setFault_flm (s : State) (k : FaultKind) (r : FaultRecord) : (setFault s k r).flm = s.flm := rfl
@[simp] theorem setFault_hev (s : State) (k : FaultKind) (r : FaultRecord) : (setFault s k r).hev = s.hev := rfl
@[simp] theorem setFault_lnc (s : State) (k : FaultKind) (r : FaultRecord) : (setFault s k r).lnc = s.lnc := rfl
@[simp] theorem setFault_ptb (s : State) (k : FaultKind) (r : FaultRecord) : (setFault s k r).ptb = s.ptb := rfl
@[simp] theorem setFault_odr (s : State) (k : FaultKind) (r : FaultRecord) : (setFault s k r).odr = s.odr := rfl
@[simp] theorem setFault_mpt (s : State) (k : FaultKind) (r : FaultRecord) : (setFault s k r).mpt = s.mpt := rfl
@[simp] theorem setFault_memory (s : State) (k : FaultKind) (r : FaultRecord) : (setFault s k r).memory = s.memory := rfl
@[simp] theorem setFault_freeIndex (s : State) (k : FaultKind) (r : FaultRecord) : (setFault s k r).freeIndex = s.freeIndex := rfl
@[simp] theorem setFault_pending (s : State) (k : FaultKind) (r : FaultRecord) : (setFault s k r).pending = s.pending := rfl

@[simp] theorem setChannel_powered (s : State) (ch : Channel) (r : ChannelRecord) : (setChannel s ch r).powered = s.powered := rfl
@[simp] theorem setChannel_uptime (s : State) (ch : Channel) (r : ChannelRecord) : (setChannel s ch r).uptime = s.uptime := rfl
@[simp] theorem setChannel_params (s : State) (ch : Channel) (r : ChannelRecord) : (setChannel s ch r).params = s.params := rfl
@[simp] theorem setChannel_fdr (s : State) (ch : Channel) (r : ChannelRecord) : (setChannel s ch r).fdr = s.fdr := rfl
@[simp] theorem setChannel_mst (s : State) (ch : Channel) (r : ChannelRecord) : (setChannel s ch r).mst = s.mst := rfl
@[simp] theorem setChannel_frg (s : State) (ch : Channel) (r : ChannelRecord) : (setChannel s ch r).frg = s.frg := rfl
@[simp] theorem setChannel_flm (s : State) (ch : Channel) (r : ChannelRecord) : (setChannel s ch r).flm = s.flm := rfl
@[simp] theorem setChannel_hev (s : State) (ch : Channel) (r : ChannelRecord) : (setChannel s ch r).hev = s.hev := rfl
@[simp] theorem setChannel_lnc (s : State) (ch : Channel) (r : ChannelRecord) : (setChannel s ch r).lnc = s.lnc := rfl
@[simp] theorem setChannel_ptb (s : State) (ch : Channel) (r : ChannelRecord) : (setChannel s ch r).ptb = s.ptb := rfl
@[simp] theorem setChannel_odr (s : State) (ch : Channel) (r : ChannelRecord) : (setChannel s ch r).odr = s.odr := rfl
@[simp] theorem setChannel_mpt (s : State) (ch : Channel) (r : ChannelRecord) : (setChannel s ch r).mpt = s.mpt := rfl
@[simp] theorem setChannel_srf (s : State) (ch : Channel) (r : ChannelRecord) : (setChannel s ch r).srf = s.srf := rfl
@[simp] theorem setChannel_memory (s : State) (ch : Channel) (r : ChannelRecord) : (setChannel s ch r).memory = s.memory := rfl
@[simp] theorem setChannel_freeIndex (s : State) (ch : Channel) (r : ChannelRecord) : (setChannel s ch r).freeIndex = s.freeIndex := rfl
@[simp] theorem setChannel_pending (s : State) (ch : Channel) (r : ChannelRecord) : (setChannel s ch r).pending = s.pending := rfl

@[simp] theorem setFan_powered (s : State) (f : Fan) (r : FanRecord) : (setFan s f r).powered = s.powered := rfl
@[simp] theorem setFan_uptime (s : State) (f : Fan) (r : FanRecord) : (setFan s f r).uptime = s.uptime := rfl
@[simp] theorem setFan_params (s : State) (f : Fan) (r : FanRecord) : (setFan s f r).params = s.params := rfl
@[simp] theorem setFan_msc (s : State) (f : Fan) (r : FanRecord) : (setFan s f r).msc = s.msc := rfl
@[simp] theorem setFan_mst (s : State) (f : Fan) (r : FanRecord) : (setFan s f r).mst = s.mst := rfl
@[simp] theorem setFan_frg (s : State) (f : Fan) (r : FanRecord) : (setFan s f r).frg = s.frg := rfl
@[simp] theorem setFan_flm (s : State) (f : Fan) (r : FanRecord) : (setFan s f r).flm = s.flm := rfl
@[simp] theorem setFan_hev (s : State) (f : Fan) (r : FanRecord) : (setFan s f r).hev = s.hev := rfl
@[simp] theorem setFan_lnc (s : State) (f : Fan) (r : FanRecord) : (setFan s f r).lnc = s.lnc := rfl
@[simp] theorem setFan_ptb (s : State) (f : Fan) (r : FanRecord) : (setFan s f r).ptb = s.ptb := rfl
@[simp] theorem setFan_odr (s : State) (f : Fan) (r : FanRecord) : (setFan s f r).odr = s.odr := rfl
@[simp] theorem setFan_mpt (s : State) (f : Fan) (r : FanRecord) : (setFan s f r).mpt = s.mpt := rfl
@[simp] theorem setFan_srf (s : State) (f : Fan) (r : FanRecord) : (setFan s f r).srf = s.srf := rfl
@[simp] theorem setFan_memory (s : State) (f : Fan) (r : FanRecord) : (setFan s f r).memory = s.memory := rfl
@[simp] theorem setFan_freeIndex (s : State) (f : Fan) (r : FanRecord) : (setFan s f r).freeIndex = s.freeIndex := rfl
@[simp] theorem setFan_pending (s : State) (f : Fan) (r : FanRecord) : (setFan s f r).pending = s.pending := rfl

@[simp] theorem setFilter_powered (s : State) (f : Fan) (r : FilterRecord) : (setFilter s f r).powered = s.powered := rfl
@[simp] theorem setFilter_uptime (s : State) (f : Fan) (r : FilterRecord) : (setFilter s f r).uptime = s.uptime := rfl
@[simp] theorem setFilter_params (s : State) (f : Fan) (r : FilterRecord) : (setFilter s f r).params = s.params := rfl
@[simp] theorem setFilter_msc (s : State) (f : Fan) (r : FilterRecord) : (setFilter s f r).msc = s.msc := rfl
@[simp] theorem setFilter_fdr (s : State) (f : Fan) (r : FilterRecord) : (setFilter s f r).fdr = s.fdr := rfl
@[simp] theorem setFilter_mst (s : State) (f : Fan) (r : FilterRecord) : (setFilter s f r).mst = s.mst := rfl
@[simp] theorem setFilter_frg (s : State) (f : Fan) (r : FilterRecord) : (setFilter s f r).frg = s.frg := rfl
@[simp] theorem setFilter_hev (s : State) (f : Fan) (r : FilterRecord) : (setFilter s f r).hev = s.hev := rfl
@[simp] theorem setFilter_lnc (s : State) (f : Fan) (r : FilterRecord) : (setFilter s f r).lnc = s.lnc := rfl
@[simp] theorem setFilter_ptb (s : State) (f : Fan) (r : FilterRecord) : (setFilter s f r).ptb = s.ptb := rfl
@[simp] theorem setFilter_odr (s : State) (f : Fan) (r : FilterRecord) : (setFilter s f r).odr = s.odr := rfl
@[simp] theorem setFilter_mpt (s : State) (f : Fan) (r : FilterRecord) : (setFilter s f r).mpt = s.mpt := rfl
@[simp] theorem setFilter_srf (s : State) (f : Fan) (r : FilterRecord) : (setFilter s f r).srf = s.srf := rfl
@[simp] theorem setFilter_memory (s : State) (f : Fan) (r : FilterRecord) : (setFilter s f r).memory = s.memory := rfl
@[simp] theorem setFilter_freeIndex (s : State) (f : Fan) (r : FilterRecord) : (setFilter s f r).freeIndex = s.freeIndex := rfl
@[simp] theorem setFilter_pending (s : State) (f : Fan) (r : FilterRecord) : (setFilter s f r).pending = s.pending := rfl

@[simp] theorem setStack_powered (s : State) (m : ModeStack) : (setStack m s).powered = s.powered := rfl
@[simp] theorem setStack_uptime (s : State) (m : ModeStack) : (setStack m s).uptime = s.uptime := rfl
@[simp] theorem setStack_params (s : State) (m : ModeStack) : (setStack m s).params = s.params := rfl
@[simp] theorem setStack_msc (s : State) (m : ModeStack) : (setStack m s).msc = s.msc := rfl
@[simp] theorem setStack_fdr (s : State) (m : ModeStack) : (setStack m s).fdr = s.fdr := rfl
@[simp] theorem setStack_frg (s : State) (m : ModeStack) : (setStack m s).frg = s.frg := rfl
@[simp] theorem setStack_flm (s : State) (m : ModeStack) : (setStack m s).flm = s.flm := rfl
@[simp] theorem setStack_hev (s : State) (m : ModeStack) : (setStack m s).hev = s.hev := rfl
@[simp] theorem setStack_lnc (s : State) (m : ModeStack) : (setStack m s).lnc = s.lnc := rfl
@[simp] theorem setStack_ptb (s : State) (m : ModeStack) : (setStack m s).ptb = s.ptb := rfl
@[simp] theorem setStack_odr (s : State) (m : ModeStack) : (setStack m s).odr = s.odr := rfl
@[simp] theorem setStack_mpt (s : State) (m : ModeStack) : (setStack m s).mpt = s.mpt := rfl
@[simp] theorem setStack_srf (s : State) (m : ModeStack) : (setStack m s).srf = s.srf := rfl
@[simp] theorem setStack_memory (s : State) (m : ModeStack) : (setStack m s).memory = s.memory := rfl
@[simp] theorem setStack_freeIndex (s : State) (m : ModeStack) : (setStack m s).freeIndex = s.freeIndex := rfl
@[simp] theorem setStack_pending (s : State) (m : ModeStack) : (setStack m s).pending = s.pending := rfl

@[simp] theorem setLine_powered (s : State) (m : LineController) : (setLine m s).powered = s.powered := rfl
@[simp] theorem setLine_uptime (s : State) (m : LineController) : (setLine m s).uptime = s.uptime := rfl
@[simp] theorem setLine_params (s : State) (m : LineController) : (setLine m s).params = s.params := rfl
@[simp] theorem setLine_msc (s : State) (m : LineController) : (setLine m s).msc = s.msc := rfl
@[simp] theorem setLine_fdr (s : State) (m : LineController) : (setLine m s).fdr = s.fdr := rfl
@[simp] theorem setLine_mst (s : State) (m : LineController) : (setLine m s).mst = s.mst := rfl
@[simp] theorem setLine_frg (s : State) (m : LineController) : (setLine m s).frg = s.frg := rfl
@[simp] theorem setLine_flm (s : State) (m : LineController) : (setLine m s).flm = s.flm := rfl
@[simp] theorem setLine_hev (s : State) (m : LineController) : (setLine m s).hev = s.hev := rfl
@[simp] theorem setLine_ptb (s : State) (m : LineController) : (setLine m s).ptb = s.ptb := rfl
@[simp] theorem setLine_odr (s : State) (m : LineController) : (setLine m s).odr = s.odr := rfl
@[simp] theorem setLine_mpt (s : State) (m : LineController) : (setLine m s).mpt = s.mpt := rfl
@[simp] theorem setLine_srf (s : State) (m : LineController) : (setLine m s).srf = s.srf := rfl
@[simp] theorem setLine_memory (s : State) (m : LineController) : (setLine m s).memory = s.memory := rfl
@[simp] theorem setLine_freeIndex (s : State) (m : LineController) : (setLine m s).freeIndex = s.freeIndex := rfl
@[simp] theorem setLine_pending (s : State) (m : LineController) : (setLine m s).pending = s.pending := rfl

@[simp] theorem stage_powered (s : State) (slot : Slot) (f : Frame) : (stage slot f s).powered = s.powered := rfl
@[simp] theorem stage_uptime (s : State) (slot : Slot) (f : Frame) : (stage slot f s).uptime = s.uptime := rfl
@[simp] theorem stage_params (s : State) (slot : Slot) (f : Frame) : (stage slot f s).params = s.params := rfl
@[simp] theorem stage_msc (s : State) (slot : Slot) (f : Frame) : (stage slot f s).msc = s.msc := rfl
@[simp] theorem stage_fdr (s : State) (slot : Slot) (f : Frame) : (stage slot f s).fdr = s.fdr := rfl
@[simp] theorem stage_mst (s : State) (slot : Slot) (f : Frame) : (stage slot f s).mst = s.mst := rfl
@[simp] theorem stage_frg (s : State) (slot : Slot) (f : Frame) : (stage slot f s).frg = s.frg := rfl
@[simp] theorem stage_flm (s : State) (slot : Slot) (f : Frame) : (stage slot f s).flm = s.flm := rfl
@[simp] theorem stage_hev (s : State) (slot : Slot) (f : Frame) : (stage slot f s).hev = s.hev := rfl
@[simp] theorem stage_ptb (s : State) (slot : Slot) (f : Frame) : (stage slot f s).ptb = s.ptb := rfl
@[simp] theorem stage_odr (s : State) (slot : Slot) (f : Frame) : (stage slot f s).odr = s.odr := rfl
@[simp] theorem stage_mpt (s : State) (slot : Slot) (f : Frame) : (stage slot f s).mpt = s.mpt := rfl
@[simp] theorem stage_srf (s : State) (slot : Slot) (f : Frame) : (stage slot f s).srf = s.srf := rfl
@[simp] theorem stage_memory (s : State) (slot : Slot) (f : Frame) : (stage slot f s).memory = s.memory := rfl
@[simp] theorem stage_freeIndex (s : State) (slot : Slot) (f : Frame) : (stage slot f s).freeIndex = s.freeIndex := rfl
@[simp] theorem stage_pending (s : State) (slot : Slot) (f : Frame) : (stage slot f s).pending = s.pending := rfl

@[simp] theorem clearCounts_powered (s : State) : (clearCounts s).powered = s.powered := rfl
@[simp] theorem clearCounts_uptime (s : State) : (clearCounts s).uptime = s.uptime := rfl
@[simp] theorem clearCounts_params (s : State) : (clearCounts s).params = s.params := rfl
@[simp] theorem clearCounts_msc (s : State) : (clearCounts s).msc = s.msc := rfl
@[simp] theorem clearCounts_fdr (s : State) : (clearCounts s).fdr = s.fdr := rfl
@[simp] theorem clearCounts_mst (s : State) : (clearCounts s).mst = s.mst := rfl
@[simp] theorem clearCounts_frg (s : State) : (clearCounts s).frg = s.frg := rfl
@[simp] theorem clearCounts_flm (s : State) : (clearCounts s).flm = s.flm := rfl
@[simp] theorem clearCounts_hev (s : State) : (clearCounts s).hev = s.hev := rfl
@[simp] theorem clearCounts_lnc (s : State) : (clearCounts s).lnc = s.lnc := rfl
@[simp] theorem clearCounts_ptb (s : State) : (clearCounts s).ptb = s.ptb := rfl
@[simp] theorem clearCounts_odr (s : State) : (clearCounts s).odr = s.odr := rfl
@[simp] theorem clearCounts_mpt (s : State) : (clearCounts s).mpt = s.mpt := rfl
@[simp] theorem clearCounts_memory (s : State) : (clearCounts s).memory = s.memory := rfl
@[simp] theorem clearCounts_freeIndex (s : State) : (clearCounts s).freeIndex = s.freeIndex := rfl
@[simp] theorem clearCounts_pending (s : State) : (clearCounts s).pending = s.pending := rfl

@[simp] theorem updateEffective_powered (s : State) : (updateEffective s).powered = s.powered := rfl
@[simp] theorem updateEffective_uptime (s : State) : (updateEffective s).uptime = s.uptime := rfl
@[simp] theorem updateEffective_params (s : State) : (updateEffective s).params = s.params := rfl
@[simp] theorem updateEffective_msc (s : State) : (updateEffective s).msc = s.msc := rfl
@[simp] theorem updateEffective_fdr (s : State) : (updateEffective s).fdr = s.fdr := rfl
@[simp] theorem updateEffective_mst (s : State) : (updateEffective s).mst = s.mst := rfl
@[simp] theorem updateEffective_frg (s : State) : (updateEffective s).frg = s.frg := rfl
@[simp] theorem updateEffective_flm (s : State) : (updateEffective s).flm = s.flm := rfl
@[simp] theorem updateEffective_hev (s : State) : (updateEffective s).hev = s.hev := rfl
@[simp] theorem updateEffective_lnc (s : State) : (updateEffective s).lnc = s.lnc := rfl
@[simp] theorem updateEffective_ptb (s : State) : (updateEffective s).ptb = s.ptb := rfl
@[simp] theorem updateEffective_mpt (s : State) : (updateEffective s).mpt = s.mpt := rfl
@[simp] theorem updateEffective_srf (s : State) : (updateEffective s).srf = s.srf := rfl
@[simp] theorem updateEffective_memory (s : State) : (updateEffective s).memory = s.memory := rfl
@[simp] theorem updateEffective_freeIndex (s : State) : (updateEffective s).freeIndex = s.freeIndex := rfl
@[simp] theorem updateEffective_pending (s : State) : (updateEffective s).pending = s.pending := rfl

@[simp] theorem updateReferences_powered (s : State) : (updateReferences s).powered = s.powered := rfl
@[simp] theorem updateReferences_uptime (s : State) : (updateReferences s).uptime = s.uptime := rfl
@[simp] theorem updateReferences_params (s : State) : (updateReferences s).params = s.params := rfl
@[simp] theorem updateReferences_msc (s : State) : (updateReferences s).msc = s.msc := rfl
@[simp] theorem updateReferences_fdr (s : State) : (updateReferences s).fdr = s.fdr := rfl
@[simp] theorem updateReferences_mst (s : State) : (updateReferences s).mst = s.mst := rfl
@[simp] theorem updateReferences_frg (s : State) : (updateReferences s).frg = s.frg := rfl
@[simp] theorem updateReferences_flm (s : State) : (updateReferences s).flm = s.flm := rfl
@[simp] theorem updateReferences_hev (s : State) : (updateReferences s).hev = s.hev := rfl
@[simp] theorem updateReferences_lnc (s : State) : (updateReferences s).lnc = s.lnc := rfl
@[simp] theorem updateReferences_ptb (s : State) : (updateReferences s).ptb = s.ptb := rfl
@[simp] theorem updateReferences_mpt (s : State) : (updateReferences s).mpt = s.mpt := rfl
@[simp] theorem updateReferences_srf (s : State) : (updateReferences s).srf = s.srf := rfl
@[simp] theorem updateReferences_memory (s : State) : (updateReferences s).memory = s.memory := rfl
@[simp] theorem updateReferences_freeIndex (s : State) : (updateReferences s).freeIndex = s.freeIndex := rfl
@[simp] theorem updateReferences_pending (s : State) : (updateReferences s).pending = s.pending := rfl

@[simp] theorem setStack_mst (s : State) (m : ModeStack) : (setStack m s).mst = m := rfl
@[simp] theorem setLine_lnc (s : State) (m : LineController) : (setLine m s).lnc = m := rfl

@[simp] theorem get_set_same {α : Type} (p : PerFan α) (f : Fan) (a : α) : (p.set f a).get f = a := by cases f <;> rfl

@[simp] theorem get_set_sup_ext {α : Type} (p : PerFan α) (a : α) : (p.set .sup a).get .ext = p.ext := rfl

@[simp] theorem get_set_ext_sup {α : Type} (p : PerFan α) (a : α) : (p.set .ext a).get .sup = p.sup := rfl

@[simp] theorem fan_setFan (s : State) (f : Fan) (r : FanRecord) : fan (setFan s f r) f = r := by cases f <;> rfl

@[simp] theorem fan_setFan_sup_ext (s : State) (r : FanRecord) : fan (setFan s .sup r) .ext = fan s .ext := rfl

@[simp] theorem fan_setFan_ext_sup (s : State) (r : FanRecord) : fan (setFan s .ext r) .sup = fan s .sup := rfl

@[simp] theorem filterRecord_setFilter (s : State) (f : Fan) (r : FilterRecord) :
    filterRecord (setFilter s f r) f = r := by cases f <;> rfl

@[simp] theorem channel_setChannel (s : State) (ch : Channel) (r : ChannelRecord) :
    channel (setChannel s ch r) ch = r := by simp [channel, setChannel]

@[simp] theorem faultRecord_setFault (s : State) (k : FaultKind) (r : FaultRecord) :
    faultRecord (setFault s k r) k = r := by simp [faultRecord, setFault]

end Sys2Proof.Machine
end

