-- ==== Sys2Proof/Laws/Kept.lean ====
section
/-! SUPPORT. What the operations of the fan drive, the filter monitor, the frost guard and the fault set leave alone, whatever
they do to their own blocks: one relation, and one lemma per operation. -/

namespace Sys2Proof.Machine

/-- `t` differs from `s` in the fan drive, the filter monitor, the frost guard, the fault set, the line controller's slots,
mark and STATE period, and a save at most. -/
structure Kept (s t : State) : Prop where
  powered : t.powered = s.powered
  uptime : t.uptime = s.uptime
  params : t.params = s.params
  msc : t.msc = s.msc
  mst : t.mst = s.mst
  hev : t.hev = s.hev
  ptb : t.ptb = s.ptb
  odr : t.odr = s.odr
  memory : t.memory = s.memory
  freeIndex : t.freeIndex = s.freeIndex
  pending : t.pending = s.pending
  lineState : t.lnc.state = s.lnc.state
  lastSender : t.lnc.lastSender = s.lnc.lastSender
  phase : t.lnc.phase = s.lnc.phase
  shifter : t.lnc.shifter = s.lnc.shifter
  failures : t.lnc.failures = s.lnc.failures
  capture : t.lnc.capture = s.lnc.capture
  duplicate : t.lnc.duplicate = s.lnc.duplicate
  loading : t.mpt.state = .loading ↔ s.mpt.state = .loading
  configResult : t.mpt.configResult = s.mpt.configResult
  recordResult : t.mpt.recordResult = s.mpt.recordResult
  locationKnown : t.mpt.locationKnown = s.mpt.locationKnown
  quiet : t.lnc.quiet = s.lnc.quiet
  listenIn : t.lnc.listenIn = s.lnc.listenIn
  idleRun : t.lnc.idleRun = s.lnc.idleRun
  dominantRun : t.lnc.dominantRun = s.lnc.dominantRun
  frameTime : t.lnc.frameTime = s.lnc.frameTime
  stuckDeclared : t.lnc.stuckDeclared = s.lnc.stuckDeclared

namespace Kept

theorem refl (s : State) : Kept s s := by constructor <;> first | rfl | exact Iff.rfl

theorem trans {a b c : State} (h : Kept a b) (k : Kept b c) : Kept a c where
  powered := k.powered.trans h.powered
  uptime := k.uptime.trans h.uptime
  params := k.params.trans h.params
  msc := k.msc.trans h.msc
  mst := k.mst.trans h.mst
  hev := k.hev.trans h.hev
  ptb := k.ptb.trans h.ptb
  odr := k.odr.trans h.odr
  memory := k.memory.trans h.memory
  freeIndex := k.freeIndex.trans h.freeIndex
  pending := k.pending.trans h.pending
  lineState := k.lineState.trans h.lineState
  lastSender := k.lastSender.trans h.lastSender
  phase := k.phase.trans h.phase
  shifter := k.shifter.trans h.shifter
  failures := k.failures.trans h.failures
  capture := k.capture.trans h.capture
  duplicate := k.duplicate.trans h.duplicate
  loading := k.loading.trans h.loading
  configResult := k.configResult.trans h.configResult
  recordResult := k.recordResult.trans h.recordResult
  locationKnown := k.locationKnown.trans h.locationKnown
  quiet := k.quiet.trans h.quiet
  listenIn := k.listenIn.trans h.listenIn
  idleRun := k.idleRun.trans h.idleRun
  dominantRun := k.dominantRun.trans h.dominantRun
  frameTime := k.frameTime.trans h.frameTime
  stuckDeclared := k.stuckDeclared.trans h.stuckDeclared

/-- The fan drive, the filter monitor, the frost guard and the fault set may change freely. -/
theorem blocks (s : State) (fdr : FanDrive) (flm : FilterMonitor) (frg : FrostGuard) (srf : Service) :
    Kept s { s with fdr := fdr, flm := flm, frg := frg, srf := srf } := by
  constructor <;> first | rfl | exact Iff.rfl

theorem inService {s t : State} (h : Kept s t) : Machine.inService t = Machine.inService s := by
  have l := h.loading
  simp only [Machine.inService, h.powered]
  cases ht : t.mpt.state <;> cases hs : s.mpt.state <;> simp_all <;> rfl

theorem channelValue {s t : State} (h : Kept s t) (ch : Channel) :
    Machine.channelValue t ch = Machine.channelValue s ch := by
  unfold Machine.channelValue channel; rw [h.msc]

theorem combustionFlag {s t : State} (h : Kept s t) : Machine.combustionFlag t = Machine.combustionFlag s := by
  simp [Machine.combustionFlag, h.mst]

end Kept

/-! ### The fault set -/

theorem setFault_kept (s : State) (k : FaultKind) (r : FaultRecord) : Kept s (setFault s k r) := Kept.blocks s _ _ _ _

theorem markActive_kept (k : FaultKind) (s : State) : Kept s (markActive k s) := by
  unfold markActive; split
  · exact Kept.refl s
  · exact setFault_kept _ _ _

theorem markInactive_kept (k : FaultKind) (s : State) : Kept s (markInactive k s) := setFault_kept _ _ _

theorem markIf_kept (b : Bool) (k : FaultKind) (s : State) : Kept s (markIf b k s) := by
  unfold markIf; split
  · exact markActive_kept k s
  · exact Kept.refl s

theorem markLineError_kept (s : State) : Kept s (markLineError s) := setFault_kept _ _ _

theorem refreshLamps_kept (s : State) : Kept s (refreshLamps s) := by
  unfold refreshLamps; split
  · exact Kept.blocks s _ _ _ _
  · exact Kept.refl s

/-! ### Save requests -/

/-- A change of the port that neither enters nor leaves LOADING and keeps the results of the start load's checks. -/
theorem kept_of_port (s : State) (m : MemoryPort) (hl : m.state = .loading ↔ s.mpt.state = .loading)
    (hc : m.configResult = s.mpt.configResult) (hr : m.recordResult = s.mpt.recordResult)
    (hk : m.locationKnown = s.mpt.locationKnown) : Kept s { s with mpt := m } := by
  constructor <;> first | rfl | exact hl | exact hc | exact hr | exact hk

theorem startByte_kept (sv : Save) (s : State) (h : s.mpt.state ≠ .loading) : Kept s (startByte sv s) :=
  kept_of_port s _ (by simp [h]) rfl rfl rfl

theorem requestSave_kept (s : State) : Kept s (requestSave s) := by
  unfold requestSave
  cases hp : s.mpt.state
  · exact Kept.refl s
  · by_cases hk : s.mpt.locationKnown = true
    · simp only [hk, ↓reduceIte]; exact startByte_kept _ s (by simp [hp])
    · simp only [hk]; exact markActive_kept _ s
  · exact kept_of_port s _ Iff.rfl rfl rfl rfl

theorem requestSaves_kept (n : Nat) (s : State) : Kept s (requestSaves n s) := by
  induction n generalizing s with
  | zero => exact Kept.refl s
  | succ n ih => exact (requestSave_kept s).trans (ih _)

/-! ### The fan drive -/

theorem setFan_kept (s : State) (f : Fan) (r : FanRecord) : Kept s (setFan s f r) := Kept.blocks s _ _ _ _

theorem driveFans_kept (s : State) : Kept s (driveFans s) := (setFan_kept _ _ _).trans (setFan_kept _ _ _)

theorem settleFan_kept (f : Fan) (s : State) : Kept s (settleFan f s) := by
  unfold settleFan; dsimp only; split
  · exact (setFan_kept _ _ _).trans (markInactive_kept _ _)
  · exact setFan_kept _ _ _

theorem stallFan_kept (f : Fan) (s : State) : Kept s (stallFan f s) := by
  unfold stallFan; dsimp only; split
  · exact (setFan_kept _ _ _).trans (markActive_kept _ _)
  · exact setFan_kept _ _ _

theorem guardFan_kept (f : Fan) (q : Nat) (s : State) : Kept s (guardFan f q s) := by
  unfold guardFan; dsimp only; split
  · exact Kept.refl s
  · exact setFan_kept _ _ _

theorem guardFlows_kept (b : Bool) (s : State) : Kept s (guardFlows b s) :=
  (guardFan_kept _ _ _).trans (guardFan_kept _ _ _)

theorem stallFans_kept (s : State) : Kept s (stallFans s) := by
  unfold stallFans; dsimp only; split
  · exact ((stallFan_kept _ _).trans (stallFan_kept _ _)).trans (guardFlows_kept _ _)
  · exact (stallFan_kept _ _).trans (stallFan_kept _ _)

theorem evaluateFans_kept (s : State) : Kept s (evaluateFans s) :=
  (driveFans_kept s).trans (((settleFan_kept _ _).trans (settleFan_kept _ _)).trans (stallFans_kept _))

/-! ### The filter monitor -/

theorem setFilter_kept (s : State) (f : Fan) (r : FilterRecord) : Kept s (setFilter s f r) := Kept.blocks s _ _ _ _

theorem breakCapture_kept (f : Fan) (s : State) : Kept s (breakCapture f s) := by
  unfold breakCapture; split
  · exact Kept.refl s
  · exact setFilter_kept _ _ _

theorem breakCaptures_kept (s : State) : Kept s (breakCaptures s) :=
  (breakCapture_kept _ _).trans (breakCapture_kept _ _)

theorem onRecord_kept (f : Fan) (op : FilterRecord → FilterRecord × Nat) (s : State) : Kept s (onRecord f op s) :=
  (setFilter_kept _ _ _).trans (requestSaves_kept _ _)

theorem evaluateIndex_kept (f : Fan) (s : State) : Kept s (evaluateIndex f s).1 := by
  cases f
  · simp only [evaluateIndex, evaluateSupplyIndex]; split
    · exact Kept.refl s
    · exact setFilter_kept _ _ _
  · simp only [evaluateIndex, evaluateExtractIndex]; split
    · exact Kept.refl s
    · exact Kept.blocks s _ _ _ _

theorem evaluatePath_kept (f : Fan) (s : State) : Kept s (evaluatePath f s).1 :=
  ((setFilter_kept s f _).trans (evaluateIndex_kept f _)).trans (setFilter_kept _ _ _)

theorem evaluateFilters_kept (s : State) : Kept s (evaluateFilters s) :=
  ((evaluatePath_kept .sup s).trans (evaluatePath_kept .ext _)).trans (requestSaves_kept _ _)

theorem setIcePossible_kept (s : State) : Kept s (setIcePossible s) := Kept.blocks s _ _ _ _

theorem clearIcePossible_kept (s : State) : Kept s (clearIcePossible s) :=
  (Kept.blocks s s.fdr _ _ s.srf).trans (requestSaves_kept _ _)

theorem filterChange_kept (s : State) : Kept s (filterChange s) :=
  ((Kept.blocks s s.fdr _ _ s.srf).trans (markInactive_kept _ _)).trans (requestSave_kept _)

theorem enterBlocked_kept (f : Fan) (s : State) : Kept s (enterBlocked f s) :=
  ((setFilter_kept s f _).trans (markActive_kept _ _)).trans (requestSave_kept _)

theorem placeRecords_kept (r : PerFan FilterRecord) (s : State) : Kept s (placeRecords r s) := by
  unfold placeRecords; dsimp only; split
  · exact ((Kept.blocks s s.fdr _ s.frg s.srf).trans (requestSaves_kept _ _)).trans (markActive_kept _ _)
  · exact (Kept.blocks s s.fdr _ s.frg s.srf).trans (requestSaves_kept _ _)

/-! ### Staging -/

theorem stage_kept (slot : Slot) (f : Frame) (s : State) : Kept s (stage slot f s) := by
  constructor <;> first | rfl | exact Iff.rfl | (simp only [stage, stageIn]; split <;> cases slot <;> rfl)

theorem composeState_kept (s : State) : Kept s (composeState s) := by
  refine Kept.trans (b := { s with lnc := { s.lnc with statePeriod := some 0 } }) ?_ (stage_kept _ _ _)
  constructor <;> first | rfl | exact Iff.rfl

/-! ### The frost guard -/

/-- The frost guard alone may change freely. -/
theorem frost_kept (s : State) (m : FrostGuard) : Kept s { s with frg := m } := Kept.blocks s s.fdr s.flm m s.srf

theorem assessIce_kept (s : State) : Kept s (assessIce s) := by
  unfold assessIce iceCauseHolds iceCauseCeased; dsimp only
  split
  · refine Kept.trans (b := if s.frg.icePossible then s else setIcePossible s) ?_ (frost_kept _ _)
    split
    · exact Kept.refl s
    · exact setIcePossible_kept s
  · split
    · exact frost_kept s _
    · exact Kept.refl s

theorem moveTo_kept (st : FrostState) (s : State) : Kept s (moveTo st s) := (frost_kept s _).trans (assessIce_kept _)

theorem moveCold_kept (st : FrostState) (s : State) : Kept s (moveCold st s) := (frost_kept s _).trans (moveTo_kept _ _)

theorem withdrawPreheater_kept (s : State) : Kept s (withdrawPreheater s) := by
  unfold withdrawPreheater; dsimp only; split
  · exact (frost_kept s _).trans (moveTo_kept _ _)
  · exact frost_kept s _

theorem refreshAvailability_kept (s : State) : Kept s (refreshAvailability s) := by
  unfold refreshAvailability; split
  · split
    · exact frost_kept s _
    · exact withdrawPreheater_kept s
  · exact Kept.refl s

theorem fansChanged_kept (s : State) : Kept s (fansChanged s) :=
  (breakCaptures_kept s).trans (refreshAvailability_kept _)

theorem leftThawU_kept (s : State) : Kept s (leftThawU s) := (guardFlows_kept _ s).trans (fansChanged_kept _)

theorem enterThaw_kept (st : FrostState) (power : Nat) (s : State) : Kept s (enterThaw st power s) :=
  ((frost_kept s _).trans (moveTo_kept _ _)).trans (composeState_kept _)

theorem deny_kept (d : Denial) (s : State) : Kept s (deny d s) := (frost_kept s _).trans (enterThaw_kept _ _ _)

theorem checkIntent_kept (s : State) : Kept s (checkIntent s) := by
  unfold checkIntent; split
  · exact Kept.refl s
  · exact deny_kept _ s

theorem recheckIntent_kept (s : State) : Kept s (recheckIntent s) := by
  unfold recheckIntent; split
  · exact checkIntent_kept s
  · exact Kept.refl s

theorem enterIntent_kept (s : State) : Kept s (enterIntent s) :=
  (((frost_kept s _).trans (moveTo_kept _ _)).trans (stage_kept _ _ _)).trans (checkIntent_kept _)

theorem endHoldoff_kept (s : State) : Kept s (endHoldoff s) := by
  unfold endHoldoff; split
  · split
    · exact enterThaw_kept _ _ s
    · exact deny_kept _ s
  · exact Kept.refl s

theorem convertThaw_kept (s : State) : Kept s (convertThaw s) := by
  unfold convertThaw; split
  · exact (((frost_kept s _).trans (moveTo_kept _ _)).trans (composeState_kept _)).trans (leftThawU_kept _)
  · exact Kept.refl s

theorem enterFallback_kept (s : State) : Kept s (enterFallback s) := by
  unfold enterFallback; dsimp only; split
  · exact ((frost_kept s _).trans (moveTo_kept _ _)).trans (stage_kept _ _ _)
  · exact (frost_kept s _).trans (moveTo_kept _ _)

theorem enterRecover_kept (s : State) : Kept s (enterRecover s) := (frost_kept s _).trans (moveTo_kept _ _)

theorem thawEnd_kept (s : State) : Kept s (thawEnd s) := by
  have h : ∀ b : Bool, ∀ t : State, Kept t (if b = true then enterRecover t else enterFallback t) := by
    intro b t; cases b
    · exact enterFallback_kept t
    · exact enterRecover_kept t
  unfold thawEnd; dsimp only; split
  · exact (((frost_kept s _).trans (stage_kept _ _ _)).trans (h _ _)).trans (leftThawU_kept _)
  · exact ((frost_kept s _).trans (stage_kept _ _ _)).trans (h _ _)

theorem startTimedThaw_kept (s : State) : Kept s (startTimedThaw s) := (frost_kept s _).trans (composeState_kept _)

theorem endTimedThaw_kept (s : State) : Kept s (endTimedThaw s) := (frost_kept s _).trans (stage_kept _ _ _)

theorem leaveFallback_kept (s : State) : Kept s (leaveFallback s) := by
  unfold leaveFallback; dsimp only; split
  · exact ((frost_kept s _).trans (moveTo_kept _ _)).trans (stage_kept _ _ _)
  · exact (frost_kept s _).trans (moveTo_kept _ _)

theorem exhaustLost_kept (s : State) : Kept s (exhaustLost s) := by
  unfold exhaustLost; split
  · exact enterFallback_kept s
  · exact Kept.refl s

theorem exhaustBack_kept (s : State) : Kept s (exhaustBack s) := by
  unfold exhaustBack; split
  · exact leaveFallback_kept s
  · exact Kept.refl s

theorem testClear_kept (s : State) : Kept s (testClear s) := by
  unfold testClear; split
  · exact moveCold_kept _ s
  · exact Kept.refl s

theorem testWatch_kept (s : State) : Kept s (testWatch s) := by
  unfold testWatch; split
  · exact moveCold_kept _ s
  · split
    · exact moveCold_kept _ s
    · exact Kept.refl s

theorem endPreheat_kept (s : State) : Kept s (endPreheat s) := by
  unfold endPreheat; split
  · exact moveTo_kept _ s
  · exact Kept.refl s

theorem testPreheat_kept (s : State) : Kept s (testPreheat s) := by
  unfold testPreheat; dsimp only; split
  · exact (frost_kept s _).trans (moveCold_kept _ _)
  · exact (frost_kept s _).trans (endPreheat_kept _)

theorem testReduce_kept (s : State) : Kept s (testReduce s) := by
  unfold testReduce; split
  · exact enterIntent_kept s
  · split
    · split
      · exact moveTo_kept _ s
      · exact moveCold_kept _ s
    · exact Kept.refl s

theorem testThaw_kept (s : State) : Kept s (testThaw s) := by
  unfold testThaw; split
  · exact thawEnd_kept s
  · exact Kept.refl s

theorem testFallback_kept (s : State) : Kept s (testFallback s) := by
  unfold testFallback; split
  · exact leaveFallback_kept s
  · split
    · exact startTimedThaw_kept s
    · exact Kept.refl s

theorem unlessExhaustFault_kept {test : State → State} (h : ∀ s, Kept s (test s)) (s : State) :
    Kept s (unlessExhaustFault test s) := by
  unfold unlessExhaustFault; split
  · exact enterFallback_kept s
  · exact h s

theorem testState_kept (s : State) : Kept s (testState s) := by
  unfold testState
  split
  · exact unlessExhaustFault_kept testClear_kept s
  · exact unlessExhaustFault_kept testWatch_kept s
  · exact unlessExhaustFault_kept testPreheat_kept s
  · exact unlessExhaustFault_kept testReduce_kept s
  · exact unlessExhaustFault_kept Kept.refl s
  · exact testThaw_kept s
  · exact testThaw_kept s
  · exact unlessExhaustFault_kept Kept.refl s
  · exact testFallback_kept s

theorem updateLoad_kept (s : State) : Kept s (updateLoad s) := frost_kept s _

theorem updatePower_kept (s : State) : Kept s (updatePower s) := frost_kept s _

theorem frostEvaluate_kept (s : State) : Kept s (frostEvaluate s) :=
  (((((updateLoad_kept s).trans (updatePower_kept _)).trans (testState_kept _)).trans (assessIce_kept _))).trans
    (frost_kept _ _)

theorem combustionAppeared_kept (s : State) : Kept s (combustionAppeared s) :=
  (recheckIntent_kept s).trans (convertThaw_kept _)

theorem duplicateFound_kept (s : State) : Kept s (duplicateFound s) :=
  (recheckIntent_kept s).trans (convertThaw_kept _)

theorem adjUpdated_kept (e : PeerEntry) (s : State) : Kept s (adjUpdated e s) := by
  unfold adjUpdated; split
  · split
    · exact convertThaw_kept s
    · exact Kept.refl s
  · exact recheckIntent_kept s

theorem thawTimedOut_kept (s : State) : Kept s (thawTimedOut s) := by
  unfold thawTimedOut; split
  · exact thawEnd_kept s
  · exact Kept.refl s

theorem endRecover_kept (s : State) : Kept s (endRecover s) := by
  unfold endRecover; split
  · exact (frost_kept s _).trans (moveTo_kept _ _)
  · exact Kept.refl s

theorem endIceHold_kept (s : State) : Kept s (endIceHold s) := (frost_kept s _).trans (clearIcePossible_kept _)

theorem endHeatOn_kept (s : State) : Kept s (endHeatOn s) := frost_kept s _

theorem takeCutout_kept (s : State) : Kept s (takeCutout s) := by
  unfold takeCutout
  split
  · exact (markInactive_kept _ s).trans (refreshAvailability_kept _)
  · exact (markActive_kept _ s).trans (refreshAvailability_kept _)

theorem cutoutDebounced_kept (s : State) : Kept s (cutoutDebounced s) := by
  unfold cutoutDebounced; dsimp only; split
  · exact (frost_kept s _).trans (takeCutout_kept _)
  · exact frost_kept s _

/-! ### The fan drive's commands and the filter monitor's -/

theorem fanEvaluate_kept (s : State) : Kept s (fanEvaluate s) :=
  (((evaluateFans_kept s).trans (fansChanged_kept _)).trans (evaluateFilters_kept _)).trans (Kept.blocks _ _ _ _ _)

theorem settleAtLimit_kept (f : Fan) (s : State) : Kept s (settleAtLimit f s) := by
  unfold settleAtLimit; split
  · exact ((setFan_kept s f _).trans (markInactive_kept _ _)).trans (fansChanged_kept _)
  · exact Kept.refl s

theorem stallAtLimit_kept (f : Fan) (s : State) : Kept s (stallAtLimit f s) := by
  unfold stallAtLimit; split
  · exact (((setFan_kept s f _).trans (markActive_kept _ _)).trans (guardFlows_kept _ _)).trans (fansChanged_kept _)
  · exact Kept.refl s

theorem endRetryPause_kept (f : Fan) (s : State) : Kept s (endRetryPause f s) := by
  unfold endRetryPause; split
  · exact (setFan_kept s f _).trans (fansChanged_kept _)
  · exact Kept.refl s

theorem clearRetries_kept (s : State) : Kept s (clearRetries s) :=
  ((setFan_kept s .sup _).trans (setFan_kept _ .ext _)).trans (fansChanged_kept _)

theorem captureAtLimit_kept (f : Fan) (s : State) : Kept s (captureAtLimit f s) := by
  unfold captureAtLimit
  split
  · split
    · exact onRecord_kept f _ s
    · exact Kept.refl s
  · exact Kept.refl s

theorem filterDebounced_kept (s : State) : Kept s (filterDebounced s) := Kept.blocks s s.fdr _ s.frg s.srf

theorem filterHeld_kept (s : State) : Kept s (filterHeld s) :=
  (Kept.blocks s s.fdr _ s.frg s.srf).trans (filterChange_kept _)

end Sys2Proof.Machine
end

