-- ==== Sys2Proof/Laws/Effects.lean ====
section
/-! SUPPORT. The frame of a meaning and the passing of time, said once: what a command can answer, and how a property goes
through `atLimit`, `whenPowered`, `whenInService`. -/

namespace Sys2Proof.Machine

/-! ### The passing of time -/

@[simp] theorem passTime_powered (d : Nat) (s : State) : (passTime d s).powered = s.powered := by
  unfold passTime; split <;> rfl

@[simp] theorem passTime_params (d : Nat) (s : State) : (passTime d s).params = s.params := by
  unfold passTime; split <;> rfl

@[simp] theorem passTime_memory (d : Nat) (s : State) : (passTime d s).memory = s.memory := by
  unfold passTime; split <;> rfl

@[simp] theorem passTime_freeIndex (d : Nat) (s : State) : (passTime d s).freeIndex = s.freeIndex := by
  unfold passTime; split <;> rfl

@[simp] theorem passTime_pending (d : Nat) (s : State) : (passTime d s).pending = s.pending := by
  unfold passTime; split <;> rfl

@[simp] theorem passTime_portState (d : Nat) (s : State) : (passTime d s).mpt.state = s.mpt.state := by
  unfold passTime; split <;> rfl

@[simp] theorem passTime_inService (d : Nat) (s : State) : inService (passTime d s) = inService s := by
  simp [inService]

@[simp] theorem passTime_above (d : Nat) (s : State) : (passTime d s).mst.above = s.mst.above := by
  unfold passTime; split <;> rfl

@[simp] theorem passTime_base (d : Nat) (s : State) : (passTime d s).mst.base = s.mst.base := by
  unfold passTime; split <;> rfl

@[simp] theorem passTime_frostState (d : Nat) (s : State) : (passTime d s).frg.state = s.frg.state := by
  unfold passTime; split <;> rfl

@[simp] theorem passTime_power (d : Nat) (s : State) : (passTime d s).frg.power = s.frg.power := by
  unfold passTime; split <;> rfl

@[simp] theorem passTime_available (d : Nat) (s : State) : (passTime d s).frg.available = s.frg.available := by
  unfold passTime; split <;> rfl

@[simp] theorem passTime_heatOn (d : Nat) (s : State) : (passTime d s).frg.heatOn = s.frg.heatOn := by
  unfold passTime; split <;> rfl

@[simp] theorem passTime_load (d : Nat) (s : State) : (passTime d s).frg.load = s.frg.load := by
  unfold passTime; split <;> rfl

@[simp] theorem passTime_counters (d : Nat) (s : State) : (passTime d s).hev.counters = s.hev.counters := by
  unfold passTime; split <;> rfl

@[simp] theorem passTime_entries (d : Nat) (s : State) : (passTime d s).ptb.entries = s.ptb.entries := by
  unfold passTime; split <;> rfl

@[simp] theorem passTime_lineState (d : Nat) (s : State) : (passTime d s).lnc.state = s.lnc.state := by
  unfold passTime; split <;> rfl

@[simp] theorem passTime_shifter (d : Nat) (s : State) : (passTime d s).lnc.shifter = s.lnc.shifter := by
  unfold passTime; split <;> rfl

/-- Time changes nothing of a fan but its retry pause. -/
theorem passTime_fan (d : Nat) (s : State) (f : Fan) :
    fan (passTime d s) f = if s.powered then { fan s f with retryPause := countDown d (fan s f).retryPause } else fan s f := by
  unfold passTime; cases f <;> split <;> rfl

@[simp] theorem passTime_commanded (d : Nat) (s : State) (f : Fan) :
    (fan (passTime d s) f).commanded = (fan s f).commanded := by rw [passTime_fan]; split <;> rfl

@[simp] theorem passTime_duty (d : Nat) (s : State) (f : Fan) : (fan (passTime d s) f).duty = (fan s f).duty := by
  rw [passTime_fan]; split <;> rfl

@[simp] theorem passTime_fanState (d : Nat) (s : State) (f : Fan) : (fan (passTime d s) f).state = (fan s f).state := by
  rw [passTime_fan]; split <;> rfl

@[simp] theorem passTime_measured (d : Nat) (s : State) (f : Fan) :
    (fan (passTime d s) f).measured = (fan s f).measured := by rw [passTime_fan]; split <;> rfl

@[simp] theorem passTime_channelValue (d : Nat) (s : State) (ch : Channel) :
    channelValue (passTime d s) ch = channelValue s ch := by
  unfold channelValue channel passTime
  split
  · simp only [Scanner.pass, Vector.getElem_map, Fin.getElem_fin, ChannelRecord.pass]
  · rfl

@[simp] theorem passTime_debouncedCutout (d : Nat) (s : State) :
    (passTime d s).frg.cutout.debouncedHigh = s.frg.cutout.debouncedHigh := by
  unfold passTime
  split
  · simp only [FrostGuard.pass, Debounce.pass]; split <;> rfl
  · rfl

@[simp] theorem passTime_combustionFlag (d : Nat) (s : State) : combustionFlag (passTime d s) = combustionFlag s := by
  simp [combustionFlag, hasEntry]

@[simp] theorem passTime_preheaterTerms (d : Nat) (s : State) : preheaterTerms (passTime d s) = preheaterTerms s := by
  simp [preheaterTerms, Debounce.low, confirmedRunning]

/-- Time passes only in a part that has supply. -/
theorem passTime_unpowered (d : Nat) (s : State) (h : s.powered = false) : passTime d s = s := by
  simp [passTime, h]

/-! ### Timed commands -/

/-- A command of a timer that runs: time up to its limit, then the effect (log 2). -/
theorem atLimit_some (limit e : Nat) (effect : State → State) (s : State) :
    atLimit limit (some e) effect s = effect (passTime (limit - e) s) := rfl

theorem atLimit_none (limit : Nat) (effect : State → State) (s : State) : atLimit limit none effect s = s := rfl

theorem atEnd_some (r : Nat) (effect : State → State) (s : State) :
    atEnd (some r) effect s = effect (passTime r s) := rfl

/-- Everything `atLimit` can do. -/
theorem atLimit_cases (limit : Nat) (timer : Option Nat) (effect : State → State) (s : State) :
    atLimit limit timer effect s = s ∨ ∃ d, atLimit limit timer effect s = effect (passTime d s) := by
  cases timer
  · exact .inl rfl
  · exact .inr ⟨_, rfl⟩

/-- Everything `atEnd` can do. -/
theorem atEnd_cases (left : Option Nat) (effect : State → State) (s : State) :
    atEnd left effect s = s ∨ ∃ d, atEnd left effect s = effect (passTime d s) := by
  cases left
  · exact .inl rfl
  · exact .inr ⟨_, rfl⟩

/-! ### The frame of a meaning -/

theorem whenPowered_of (effect : State → State) (s : State) (h : s.powered = true) :
    whenPowered effect s = .next (refreshLamps (effect s)) := by simp [whenPowered, h]

theorem whenInService_of (effect : State → State) (s : State) (h : inService s = true) :
    whenInService effect s = .next (refreshLamps (effect s)) := by simp [whenInService, h]

/-- A command in service has a part with supply. -/
theorem powered_of_inService {s : State} (h : inService s = true) : s.powered = true := by
  simp [inService] at h; exact h.1

/-- In service the port is not in its start load. -/
theorem not_loading_of_inService {s : State} (h : inService s = true) : s.mpt.state ≠ .loading := by
  simp [inService] at h; exact h.2

/-- Everything `whenPowered` can answer. -/
theorem whenPowered_next {effect : State → State} {s t : State} (h : whenPowered effect s = .next t) :
    t = s ∨ (s.powered = true ∧ t = refreshLamps (effect s)) := by
  unfold whenPowered at h; split at h
  · rename_i hp; injection h with h; exact .inr ⟨hp, h.symm⟩
  · injection h with h; exact .inl h.symm

/-- Everything `whenInService` can answer. -/
theorem whenInService_next {effect : State → State} {s t : State} (h : whenInService effect s = .next t) :
    t = s ∨ (inService s = true ∧ t = refreshLamps (effect s)) := by
  unfold whenInService at h; split at h
  · rename_i hp; injection h with h; exact .inr ⟨hp, h.symm⟩
  · injection h with h; exact .inl h.symm

/-- A property that the lamps keep goes through a powered meaning if its effect keeps it. -/
theorem whenPowered_keeps {P : State → Prop} (lamps : ∀ s, P s → P (refreshLamps s)) {effect : State → State} {s t : State}
    (keeps : s.powered = true → P s → P (effect s)) (h : whenPowered effect s = .next t) (hs : P s) : P t := by
  rcases whenPowered_next h with rfl | ⟨hp, rfl⟩
  · exact hs
  · exact lamps _ (keeps hp hs)

/-- A property that the lamps keep goes through a meaning in service if its effect keeps it. -/
theorem whenInService_keeps {P : State → Prop} (lamps : ∀ s, P s → P (refreshLamps s)) {effect : State → State}
    {s t : State} (keeps : inService s = true → P s → P (effect s)) (h : whenInService effect s = .next t) (hs : P s) :
    P t := by
  rcases whenInService_next h with rfl | ⟨hp, rfl⟩
  · exact hs
  · exact lamps _ (keeps hp hs)

/-- What holds before a timed command and through the passing of time gives what holds after it: of the state itself,
where the timer is stopped, and of the effect, where it runs. -/
theorem atLimit_to {P Q : State → Prop} (time : ∀ d s, P s → P (passTime d s)) (limit : Nat) (timer : Option Nat)
    {effect : State → State} (s : State) (stay : Q s) (acts : ∀ s, P s → Q (effect s)) (hs : P s) :
    Q (atLimit limit timer effect s) := by
  rcases atLimit_cases limit timer effect s with h | ⟨d, h⟩ <;> rw [h]
  · exact stay
  · exact acts _ (time d s hs)

/-- As `atLimit_to`, for a timer that holds the time left. -/
theorem atEnd_to {P Q : State → Prop} (time : ∀ d s, P s → P (passTime d s)) (left : Option Nat)
    {effect : State → State} (s : State) (stay : Q s) (acts : ∀ s, P s → Q (effect s)) (hs : P s) :
    Q (atEnd left effect s) := by
  rcases atEnd_cases left effect s with h | ⟨d, h⟩ <;> rw [h]
  · exact stay
  · exact acts _ (time d s hs)

end Sys2Proof.Machine
end

