-- ==== Sys2Proof/Laws/Blocks.lean ====
section
/-! SUPPORT. What the operations of the mode stack, the outdoor blocks, the line controller, the service responder, the scanner
and the memory port do to their own block, and what they leave alone beside it. -/

namespace Sys2Proof.Machine

/-! ### Mode stack -/

/-- The stack that a COMBUSTION entry's appearance leaves. -/
def combustionStack (s : State) : ModeStack :=
  if combustionFlag s then s.mst else insertEntry s.params .combustion s.mst

theorem insertCombustion_kept (s : State) : Kept (setStack (combustionStack s) s) (insertCombustion s) := by
  unfold insertCombustion combustionStack
  split
  · exact Kept.refl s
  · exact ((guardFlows_kept _ _).trans (fansChanged_kept _)).trans (combustionAppeared_kept _)

/-- The COMBUSTION contact taken as it stands changes the stack, and else what `Kept` lets change. -/
theorem takeCombustion_kept (s : State) : ∃ m, Kept (setStack m s) (takeCombustion s) := by
  unfold takeCombustion
  split
  · exact ⟨_, insertCombustion_kept s⟩
  · exact ⟨_, Kept.refl _⟩

/-! ### Outdoor blocks -/

theorem evaluatePlumeOf_eq (p : Position) (s : State) : ∃ o, evaluatePlumeOf p s = { s with odr := o } := by
  unfold evaluatePlumeOf evaluatePlume
  split
  · split
    · exact ⟨_, rfl⟩
    · exact ⟨s.odr, rfl⟩
  · exact ⟨s.odr, rfl⟩

theorem evaluatePlume_eq (s : State) : ∃ o, evaluatePlume s = { s with odr := o } := by
  unfold evaluatePlume
  split
  · exact ⟨_, rfl⟩
  · exact ⟨s.odr, rfl⟩

theorem updateOutdoor_eq (s : State) : ∃ o, updateOutdoor s = { s with odr := o } := ⟨_, rfl⟩

/-- A recorded entry stands in the table; the outdoor resolver follows, and else what `Kept` lets change. -/
theorem recordEntry_kept (e : PeerEntry) (s : State) :
    ∃ o, Kept { s with ptb := { s.ptb with entries := putEntry e s.ptb.entries }, odr := o } (recordEntry e s) := by
  unfold recordEntry
  obtain ⟨o, ho⟩ := evaluatePlumeOf_eq e.position { s with ptb := { s.ptb with entries := putEntry e s.ptb.entries } }
  obtain ⟨o', ho'⟩ := updateOutdoor_eq { s with ptb := { s.ptb with entries := putEntry e s.ptb.entries }, odr := o }
  refine ⟨o', ?_⟩
  simp only [ho]
  rw [ho']
  split
  · exact adjUpdated_kept _ _
  · exact Kept.refl _

/-- The removal of entries: the table, the outdoor resolver, and else what `Kept` lets change. -/
theorem removeEntries_kept (gone : PeerEntry → Bool) (s : State) :
    ∃ o, Kept { s with ptb := { s.ptb with entries := s.ptb.entries.filter (fun e => !gone e) }, odr := o }
      (removeEntries gone s) := by
  refine ⟨(updateOutdoor { s with ptb := { s.ptb with entries := s.ptb.entries.filter (fun e => !gone e) } }).odr, ?_⟩
  unfold removeEntries
  dsimp only
  split
  · exact recheckIntent_kept _
  · exact Kept.refl _

/-- The table after an ageing tick (R145). -/
def agedEntries (s : State) : List PeerEntry :=
  (s.ptb.entries.map fun e => { e with age := e.age + 1 }).filter fun e => !expired s.params e

theorem ageEntries_kept (s : State) :
    ∃ o, Kept { s with ptb := { entries := agedEntries s, timer := some 0 }, odr := o } (ageEntries s) := by
  obtain ⟨o, ho⟩ := evaluatePlume_eq { s with ptb := { entries := agedEntries s, timer := some 0 } }
  obtain ⟨o', ho'⟩ := updateOutdoor_eq { s with ptb := { entries := agedEntries s, timer := some 0 }, odr := o }
  refine ⟨o', ?_⟩
  have key : updateOutdoor (evaluatePlume { s with ptb := { entries := agedEntries s, timer := some 0 } })
      = { s with ptb := { entries := agedEntries s, timer := some 0 }, odr := o' } := by rw [ho, ho']
  unfold ageEntries
  dsimp only
  split
  · exact key ▸ recheckIntent_kept _
  · exact key ▸ Kept.refl _

/-! ### Line controller -/

theorem lineFault_lnc (fault : LineFaultKind) (sender : Option Position) (kind : Option FrameKind) (s : State) :
    (lineFault fault sender kind s).lnc = captureFault ⟨fault, sender, kind, runClock s⟩ s.lnc := rfl

/-- A line fault changes the capture, and else what `Kept` lets change. -/
theorem lineFault_kept (fault : LineFaultKind) (sender : Option Position) (kind : Option FrameKind) (s : State) :
    Kept (setLine (captureFault ⟨fault, sender, kind, runClock s⟩ s.lnc) s) (lineFault fault sender kind s) :=
  markLineError_kept _

@[simp] theorem captureFault_state (c : LineCapture) (m : LineController) : (captureFault c m).state = m.state := by
  unfold captureFault; split <;> rfl

@[simp] theorem captureFault_shifter (c : LineCapture) (m : LineController) : (captureFault c m).shifter = m.shifter := by
  unfold captureFault; split <;> rfl

/-- Everything `whenJudged` can do: nothing, or its effect at the end of a reception that ends with that verdict. -/
theorem whenJudged_cases (v : Verdict) (effect : State → State) (s : State) :
    whenJudged v effect s = s ∨ ∃ d, receiving s = true ∧ reception s.lnc = some (d, v) ∧
      whenJudged v effect s = effect (passTime d s) := by
  unfold whenJudged
  split
  · rename_i hr
    split
    · exact .inl rfl
    · rename_i d w hw
      by_cases h : w = v
      · subst h; exact .inr ⟨d, hr, hw, by simp⟩
      · exact .inl (by simp [h])
  · exact .inl rfl

/-- A reception that ends with this verdict: the effect, at its end (R126). -/
theorem whenJudged_of {v : Verdict} (effect : State → State) {s : State} {d : Nat} (hr : receiving s = true)
    (hv : reception s.lnc = some (d, v)) : whenJudged v effect s = effect (passTime d s) := by
  simp [whenJudged, hr, hv]

/-- A discarded frame changes the line controller only, and else what `Kept` lets change. -/
theorem discard_kept (fault : LineFaultKind) (sender : Option Position) (kind : Option FrameKind) (s : State) :
    ∃ m : LineController, m.state = s.lnc.state ∧ m.shifter = s.lnc.shifter ∧
      Kept (setLine m s) (discard fault sender kind s) := by
  refine ⟨captureFault ⟨fault, sender, kind, runClock s⟩ (toWaiting s.lnc), ?_, ?_,
    lineFault_kept fault sender kind (setLine (toWaiting s.lnc) s)⟩ <;> simp [toWaiting]

theorem declareStuck_kept (s : State) :
    ∃ m : LineController, m.state = s.lnc.state ∧ m.shifter = s.lnc.shifter ∧ Kept (setLine m s) (declareStuck s) := by
  refine ⟨captureFault ⟨.stuck, none, none, runClock s⟩ { s.lnc with stuckDeclared := true }, ?_, ?_,
    lineFault_kept .stuck none none (setLine { s.lnc with stuckDeclared := true } s)⟩ <;> simp

/-- A stuck line in a reception: what is received is discarded with STUCK (R128). -/
theorem stuckReception_kept (s : State) :
    ∃ m : LineController, m.state = s.lnc.state ∧ m.shifter = s.lnc.shifter ∧
      Kept (setLine m s) (declareStuck (setLine (toWaiting s.lnc) s)) := by
  obtain ⟨m, h1, h2, k⟩ := declareStuck_kept (setLine (toWaiting s.lnc) s)
  exact ⟨m, by simpa [toWaiting] using h1, by simpa [toWaiting] using h2, k⟩

/-- Everything `stuckLine` can do: STUCK declared in WAITING, the end of a reception by it, or nothing. -/
theorem stuckLine_cases (s : State) :
    stuckLine s = s ∨ stuckLine s = declareStuck s ∨
      ∃ d, receiving s = true ∧ reception s.lnc = some (d, .stuck) ∧
        stuckLine s = declareStuck (setLine (toWaiting (passTime d s).lnc) (passTime d s)) := by
  unfold stuckLine
  split
  · exact .inr (.inl rfl)
  · rcases whenJudged_cases .stuck (fun s => declareStuck (setLine (toWaiting s.lnc) s)) s with h | ⟨d, hr, hv, h⟩
    · exact .inl h
    · exact .inr (.inr ⟨d, hr, hv, h⟩)

/-- Everything `whenCompared` can do: nothing, or its effect on the frame in the shifter at the bit that decides. -/
theorem whenCompared_cases (v : SendVerdict) (effect : ShiftedFrame → State → State) (s : State) :
    whenCompared v effect s = s ∨ ∃ f d, s.lnc.shifter = some f ∧ comparison s.lnc = some (d, v) ∧
      whenCompared v effect s = effect f (passTime d s) := by
  unfold whenCompared
  split
  · rename_i f d w hf hc
    by_cases h : w = v
    · subst h; exact .inr ⟨f, d, hf, hc, by simp⟩
    · exact .inl (by simp [h])
  · exact .inl rfl

/-- A comparison that comes to this: the effect, at the bit that decides it (R131). -/
theorem whenCompared_of {v : SendVerdict} (effect : ShiftedFrame → State → State) {s : State} {f : ShiftedFrame} {d : Nat}
    (hf : s.lnc.shifter = some f) (hc : comparison s.lnc = some (d, v)) :
    whenCompared v effect s = effect f (passTime d s) := by
  simp [whenCompared, hf, hc]

/-- A BIT_ERROR empties the shifter (R130, R131). -/
theorem failFrame_kept (f : ShiftedFrame) (s : State) :
    ∃ m : LineController, m.shifter = none ∧ Kept (setLine m s) (failFrame f s) := by
  unfold failFrame
  dsimp only
  split
  · refine ⟨_, ?_, Kept.trans (b := setLine (countFailure (captureFault
      ⟨.bitError, some f.sender, some f.frame.kind, runClock (setLine (toWaiting { s.lnc with shifter := none, mark := none }) s)⟩
      (toWaiting { s.lnc with shifter := none, mark := none }))) s) (Kept.refl _) ?_⟩
    · unfold countFailure; split <;> simp [toWaiting]
    · exact Kept.blocks _ _ _ _ _
  · refine ⟨_, ?_, Kept.trans (b := setLine (countFailure (captureFault
      ⟨.bitError, some f.sender, some f.frame.kind, runClock (setLine (toWaiting { s.lnc with shifter := none, mark := none }) s)⟩
      (toWaiting { s.lnc with shifter := none, mark := none }))) s) (Kept.refl _) ?_⟩
    · unfold countFailure; split <;> simp [toWaiting]
    · exact (Kept.blocks _ _ _ _ _).trans (recheckIntent_kept _)

/-- A duplicate position moves the line to LISTEN (R136). -/
theorem findDuplicate_kept (s : State) :
    ∃ m : LineController, m.shifter = s.lnc.shifter ∧ Kept (setLine m s) (findDuplicate s) := by
  unfold findDuplicate
  split
  · exact ⟨s.lnc, rfl, Kept.refl s⟩
  · exact ⟨{ s.lnc with state := .listen, listenIn := none, quiet := none, duplicate := true }, rfl,
      (markActive_kept _ _).trans (duplicateFound_kept _)⟩

/-- What a correct frame from another station leaves before it is handed on (R127). -/
def heard (sender : Position) (s : State) : State :=
  markInactive .lineErrors (setLine { toWaiting s.lnc with lastSender := sender } s)

/-- Everything an accepted frame can do (R127). -/
theorem accept_cases (sender : Position) (handOn : State → State) (s : State) :
    accept sender handOn s = findDuplicate (heard sender s) ∨
      (s.params.position ≠ some sender ∧ accept sender handOn s = handOn (heard sender s)) := by
  unfold accept
  by_cases hp : s.params.position = some sender
  · left; simp only [heard]; rw [if_pos]; exact hp
  · right; refine ⟨hp, ?_⟩; simp only [heard]; rw [if_neg]; exact hp

end Sys2Proof.Machine
end

