-- ==== Sys2Proof/Laws/Fields.lean ====
section
/-! SUPPORT. The operations that leave the fan drive, or the fault records and lamps, alone: one lemma per operation. -/

namespace Sys2Proof.Machine

@[simp] theorem refreshLamps_fdr (s : State) : (refreshLamps s).fdr = s.fdr := by
  unfold refreshLamps; (try dsimp only) <;> (repeat' split) <;> simp
@[simp] theorem markActive_fdr (k : FaultKind) (s : State) : (markActive k s).fdr = s.fdr := by
  unfold markActive; (try dsimp only) <;> (repeat' split) <;> simp
@[simp] theorem markInactive_fdr (k : FaultKind) (s : State) : (markInactive k s).fdr = s.fdr := by
  unfold markInactive; (try dsimp only) <;> (repeat' split) <;> simp
@[simp] theorem markLineError_fdr (s : State) : (markLineError s).fdr = s.fdr := by
  unfold markLineError; (try dsimp only) <;> (repeat' split) <;> simp
@[simp] theorem markIf_fdr (b : Bool) (k : FaultKind) (s : State) : (markIf b k s).fdr = s.fdr := by
  unfold markIf; (try dsimp only) <;> (repeat' split) <;> simp
@[simp] theorem lineFault_fdr (a : LineFaultKind) (b : Option Position) (c : Option FrameKind) (s : State) : (lineFault a b c s).fdr = s.fdr := by
  unfold lineFault; (try dsimp only) <;> (repeat' split) <;> simp
@[simp] theorem startByte_fdr (sv : Save) (s : State) : (startByte sv s).fdr = s.fdr := by
  unfold startByte; (try dsimp only) <;> (repeat' split) <;> simp
@[simp] theorem startByte_srf (sv : Save) (s : State) : (startByte sv s).srf = s.srf := by
  unfold startByte; (try dsimp only) <;> (repeat' split) <;> simp
@[simp] theorem beginSave_fdr (s : State) : (beginSave s).fdr = s.fdr := by
  unfold beginSave; (try dsimp only) <;> (repeat' split) <;> simp
@[simp] theorem beginSave_srf (s : State) : (beginSave s).srf = s.srf := by
  unfold beginSave; (try dsimp only) <;> (repeat' split) <;> simp
@[simp] theorem requestSave_fdr (s : State) : (requestSave s).fdr = s.fdr := by
  unfold requestSave; (try dsimp only) <;> (repeat' split) <;> simp
@[simp] theorem requestSaves_fdr (n : Nat) (s : State) : (requestSaves n s).fdr = s.fdr := by
  induction n generalizing s with | zero => rfl | succ n ih => simp [requestSaves, ih]
@[simp] theorem endSave_fdr (s : State) : (endSave s).fdr = s.fdr := by
  unfold endSave; (try dsimp only) <;> (repeat' split) <;> simp
@[simp] theorem endSave_srf (s : State) : (endSave s).srf = s.srf := by
  unfold endSave; (try dsimp only) <;> (repeat' split) <;> simp
@[simp] theorem guardFan_srf (f : Fan) (q : Nat) (s : State) : (guardFan f q s).srf = s.srf := by
  unfold guardFan; (try dsimp only) <;> (repeat' split) <;> simp
@[simp] theorem guardFlows_srf (b : Bool) (s : State) : (guardFlows b s).srf = s.srf := by
  unfold guardFlows; (try dsimp only) <;> (repeat' split) <;> simp
@[simp] theorem breakCapture_fdr (f : Fan) (s : State) : (breakCapture f s).fdr = s.fdr := by
  unfold breakCapture; (try dsimp only) <;> (repeat' split) <;> simp
@[simp] theorem breakCapture_srf (f : Fan) (s : State) : (breakCapture f s).srf = s.srf := by
  unfold breakCapture; (try dsimp only) <;> (repeat' split) <;> simp
@[simp] theorem breakCaptures_fdr (s : State) : (breakCaptures s).fdr = s.fdr := by
  unfold breakCaptures; (try dsimp only) <;> (repeat' split) <;> simp
@[simp] theorem breakCaptures_srf (s : State) : (breakCaptures s).srf = s.srf := by
  unfold breakCaptures; (try dsimp only) <;> (repeat' split) <;> simp
@[simp] theorem onRecord_fdr (f : Fan) (op : FilterRecord → FilterRecord × Nat) (s : State) : (onRecord f op s).fdr = s.fdr := by
  unfold onRecord; (try dsimp only) <;> (repeat' split) <;> simp
@[simp] theorem setIcePossible_fdr (s : State) : (setIcePossible s).fdr = s.fdr := by
  unfold setIcePossible; (try dsimp only) <;> (repeat' split) <;> simp
@[simp] theorem setIcePossible_srf (s : State) : (setIcePossible s).srf = s.srf := by
  unfold setIcePossible; (try dsimp only) <;> (repeat' split) <;> simp
@[simp] theorem clearIcePossible_fdr (s : State) : (clearIcePossible s).fdr = s.fdr := by
  unfold clearIcePossible; (try dsimp only) <;> (repeat' split) <;> simp
@[simp] theorem iceCauseHolds_fdr (s : State) : (iceCauseHolds s).fdr = s.fdr := by
  unfold iceCauseHolds; (try dsimp only) <;> (repeat' split) <;> simp
@[simp] theorem iceCauseHolds_srf (s : State) : (iceCauseHolds s).srf = s.srf := by
  unfold iceCauseHolds; (try dsimp only) <;> (repeat' split) <;> simp
@[simp] theorem iceCauseCeased_fdr (s : State) : (iceCauseCeased s).fdr = s.fdr := by
  unfold iceCauseCeased; (try dsimp only) <;> (repeat' split) <;> simp
@[simp] theorem iceCauseCeased_srf (s : State) : (iceCauseCeased s).srf = s.srf := by
  unfold iceCauseCeased; (try dsimp only) <;> (repeat' split) <;> simp
@[simp] theorem assessIce_fdr (s : State) : (assessIce s).fdr = s.fdr := by
  unfold assessIce; (try dsimp only) <;> (repeat' split) <;> simp
@[simp] theorem assessIce_srf (s : State) : (assessIce s).srf = s.srf := by
  unfold assessIce; (try dsimp only) <;> (repeat' split) <;> simp
@[simp] theorem moveTo_fdr (st : FrostState) (s : State) : (moveTo st s).fdr = s.fdr := by
  unfold moveTo; (try dsimp only) <;> (repeat' split) <;> simp
@[simp] theorem moveTo_srf (st : FrostState) (s : State) : (moveTo st s).srf = s.srf := by
  unfold moveTo; (try dsimp only) <;> (repeat' split) <;> simp
@[simp] theorem moveCold_fdr (st : FrostState) (s : State) : (moveCold st s).fdr = s.fdr := by
  unfold moveCold; (try dsimp only) <;> (repeat' split) <;> simp
@[simp] theorem moveCold_srf (st : FrostState) (s : State) : (moveCold st s).srf = s.srf := by
  unfold moveCold; (try dsimp only) <;> (repeat' split) <;> simp
@[simp] theorem withdrawPreheater_fdr (s : State) : (withdrawPreheater s).fdr = s.fdr := by
  unfold withdrawPreheater; (try dsimp only) <;> (repeat' split) <;> simp
@[simp] theorem withdrawPreheater_srf (s : State) : (withdrawPreheater s).srf = s.srf := by
  unfold withdrawPreheater; (try dsimp only) <;> (repeat' split) <;> simp
@[simp] theorem refreshAvailability_fdr (s : State) : (refreshAvailability s).fdr = s.fdr := by
  unfold refreshAvailability; (try dsimp only) <;> (repeat' split) <;> simp
@[simp] theorem refreshAvailability_srf (s : State) : (refreshAvailability s).srf = s.srf := by
  unfold refreshAvailability; (try dsimp only) <;> (repeat' split) <;> simp
@[simp] theorem fansChanged_fdr (s : State) : (fansChanged s).fdr = s.fdr := by
  unfold fansChanged; (try dsimp only) <;> (repeat' split) <;> simp
@[simp] theorem fansChanged_srf (s : State) : (fansChanged s).srf = s.srf := by
  unfold fansChanged; (try dsimp only) <;> (repeat' split) <;> simp
@[simp] theorem leftThawU_srf (s : State) : (leftThawU s).srf = s.srf := by
  unfold leftThawU; (try dsimp only) <;> (repeat' split) <;> simp
@[simp] theorem composeState_fdr (s : State) : (composeState s).fdr = s.fdr := by
  unfold composeState; (try dsimp only) <;> (repeat' split) <;> simp
@[simp] theorem composeState_srf (s : State) : (composeState s).srf = s.srf := by
  unfold composeState; (try dsimp only) <;> (repeat' split) <;> simp
@[simp] theorem stageEnd_fdr (s : State) : (stageEnd s).fdr = s.fdr := by
  unfold stageEnd; (try dsimp only) <;> (repeat' split) <;> simp
@[simp] theorem stageEnd_srf (s : State) : (stageEnd s).srf = s.srf := by
  unfold stageEnd; (try dsimp only) <;> (repeat' split) <;> simp
@[simp] theorem stageIntent_fdr (u : Nat) (s : State) : (stageIntent u s).fdr = s.fdr := by
  unfold stageIntent; (try dsimp only) <;> (repeat' split) <;> simp
@[simp] theorem stageIntent_srf (u : Nat) (s : State) : (stageIntent u s).srf = s.srf := by
  unfold stageIntent; (try dsimp only) <;> (repeat' split) <;> simp
@[simp] theorem enterThaw_fdr (st : FrostState) (p : Nat) (s : State) : (enterThaw st p s).fdr = s.fdr := by
  unfold enterThaw; (try dsimp only) <;> (repeat' split) <;> simp
@[simp] theorem enterThaw_srf (st : FrostState) (p : Nat) (s : State) : (enterThaw st p s).srf = s.srf := by
  unfold enterThaw; (try dsimp only) <;> (repeat' split) <;> simp
@[simp] theorem deny_fdr (d : Denial) (s : State) : (deny d s).fdr = s.fdr := by
  unfold deny; (try dsimp only) <;> (repeat' split) <;> simp
@[simp] theorem deny_srf (d : Denial) (s : State) : (deny d s).srf = s.srf := by
  unfold deny; (try dsimp only) <;> (repeat' split) <;> simp
@[simp] theorem checkIntent_fdr (s : State) : (checkIntent s).fdr = s.fdr := by
  unfold checkIntent; (try dsimp only) <;> (repeat' split) <;> simp
@[simp] theorem checkIntent_srf (s : State) : (checkIntent s).srf = s.srf := by
  unfold checkIntent; (try dsimp only) <;> (repeat' split) <;> simp
@[simp] theorem recheckIntent_fdr (s : State) : (recheckIntent s).fdr = s.fdr := by
  unfold recheckIntent; (try dsimp only) <;> (repeat' split) <;> simp
@[simp] theorem recheckIntent_srf (s : State) : (recheckIntent s).srf = s.srf := by
  unfold recheckIntent; (try dsimp only) <;> (repeat' split) <;> simp
@[simp] theorem enterIntent_fdr (s : State) : (enterIntent s).fdr = s.fdr := by
  unfold enterIntent; (try dsimp only) <;> (repeat' split) <;> simp
@[simp] theorem enterIntent_srf (s : State) : (enterIntent s).srf = s.srf := by
  unfold enterIntent; (try dsimp only) <;> (repeat' split) <;> simp
@[simp] theorem endHoldoff_fdr (s : State) : (endHoldoff s).fdr = s.fdr := by
  unfold endHoldoff; (try dsimp only) <;> (repeat' split) <;> simp
@[simp] theorem endHoldoff_srf (s : State) : (endHoldoff s).srf = s.srf := by
  unfold endHoldoff; (try dsimp only) <;> (repeat' split) <;> simp
@[simp] theorem convertThaw_srf (s : State) : (convertThaw s).srf = s.srf := by
  unfold convertThaw; (try dsimp only) <;> (repeat' split) <;> simp
@[simp] theorem enterFallback_fdr (s : State) : (enterFallback s).fdr = s.fdr := by
  unfold enterFallback; (try dsimp only) <;> (repeat' split) <;> simp
@[simp] theorem enterFallback_srf (s : State) : (enterFallback s).srf = s.srf := by
  unfold enterFallback; (try dsimp only) <;> (repeat' split) <;> simp
@[simp] theorem enterRecover_fdr (s : State) : (enterRecover s).fdr = s.fdr := by
  unfold enterRecover; (try dsimp only) <;> (repeat' split) <;> simp
@[simp] theorem enterRecover_srf (s : State) : (enterRecover s).srf = s.srf := by
  unfold enterRecover; (try dsimp only) <;> (repeat' split) <;> simp
@[simp] theorem thawEnd_srf (s : State) : (thawEnd s).srf = s.srf := by
  unfold thawEnd; (try dsimp only) <;> (repeat' split) <;> simp
@[simp] theorem exhaustLost_fdr (s : State) : (exhaustLost s).fdr = s.fdr := by
  unfold exhaustLost; (try dsimp only) <;> (repeat' split) <;> simp
@[simp] theorem exhaustLost_srf (s : State) : (exhaustLost s).srf = s.srf := by
  unfold exhaustLost; (try dsimp only) <;> (repeat' split) <;> simp
@[simp] theorem leaveFallback_fdr (s : State) : (leaveFallback s).fdr = s.fdr := by
  unfold leaveFallback; (try dsimp only) <;> (repeat' split) <;> simp
@[simp] theorem leaveFallback_srf (s : State) : (leaveFallback s).srf = s.srf := by
  unfold leaveFallback; (try dsimp only) <;> (repeat' split) <;> simp
@[simp] theorem exhaustBack_fdr (s : State) : (exhaustBack s).fdr = s.fdr := by
  unfold exhaustBack; (try dsimp only) <;> (repeat' split) <;> simp
@[simp] theorem exhaustBack_srf (s : State) : (exhaustBack s).srf = s.srf := by
  unfold exhaustBack; (try dsimp only) <;> (repeat' split) <;> simp
@[simp] theorem startTimedThaw_fdr (s : State) : (startTimedThaw s).fdr = s.fdr := by
  unfold startTimedThaw; (try dsimp only) <;> (repeat' split) <;> simp
@[simp] theorem startTimedThaw_srf (s : State) : (startTimedThaw s).srf = s.srf := by
  unfold startTimedThaw; (try dsimp only) <;> (repeat' split) <;> simp
@[simp] theorem endTimedThaw_fdr (s : State) : (endTimedThaw s).fdr = s.fdr := by
  unfold endTimedThaw; (try dsimp only) <;> (repeat' split) <;> simp
@[simp] theorem endTimedThaw_srf (s : State) : (endTimedThaw s).srf = s.srf := by
  unfold endTimedThaw; (try dsimp only) <;> (repeat' split) <;> simp
@[simp] theorem testClear_fdr (s : State) : (testClear s).fdr = s.fdr := by
  unfold testClear; (try dsimp only) <;> (repeat' split) <;> simp
@[simp] theorem testClear_srf (s : State) : (testClear s).srf = s.srf := by
  unfold testClear; (try dsimp only) <;> (repeat' split) <;> simp
@[simp] theorem testWatch_fdr (s : State) : (testWatch s).fdr = s.fdr := by
  unfold testWatch; (try dsimp only) <;> (repeat' split) <;> simp
@[simp] theorem testWatch_srf (s : State) : (testWatch s).srf = s.srf := by
  unfold testWatch; (try dsimp only) <;> (repeat' split) <;> simp
@[simp] theorem endPreheat_fdr (s : State) : (endPreheat s).fdr = s.fdr := by
  unfold endPreheat; (try dsimp only) <;> (repeat' split) <;> simp
@[simp] theorem endPreheat_srf (s : State) : (endPreheat s).srf = s.srf := by
  unfold endPreheat; (try dsimp only) <;> (repeat' split) <;> simp
@[simp] theorem testPreheat_fdr (s : State) : (testPreheat s).fdr = s.fdr := by
  unfold testPreheat; (try dsimp only) <;> (repeat' split) <;> simp
@[simp] theorem testPreheat_srf (s : State) : (testPreheat s).srf = s.srf := by
  unfold testPreheat; (try dsimp only) <;> (repeat' split) <;> simp
@[simp] theorem testReduce_fdr (s : State) : (testReduce s).fdr = s.fdr := by
  unfold testReduce; (try dsimp only) <;> (repeat' split) <;> simp
@[simp] theorem testReduce_srf (s : State) : (testReduce s).srf = s.srf := by
  unfold testReduce; (try dsimp only) <;> (repeat' split) <;> simp
@[simp] theorem testThaw_srf (s : State) : (testThaw s).srf = s.srf := by
  unfold testThaw; (try dsimp only) <;> (repeat' split) <;> simp
@[simp] theorem testFallback_fdr (s : State) : (testFallback s).fdr = s.fdr := by
  unfold testFallback; (try dsimp only) <;> (repeat' split) <;> simp
@[simp] theorem testFallback_srf (s : State) : (testFallback s).srf = s.srf := by
  unfold testFallback; (try dsimp only) <;> (repeat' split) <;> simp
@[simp] theorem testState_srf (s : State) : (testState s).srf = s.srf := by
  unfold testState unlessExhaustFault; (repeat' split) <;> simp
@[simp] theorem updateLoad_fdr (s : State) : (updateLoad s).fdr = s.fdr := by
  unfold updateLoad; (try dsimp only) <;> (repeat' split) <;> simp
@[simp] theorem updateLoad_srf (s : State) : (updateLoad s).srf = s.srf := by
  unfold updateLoad; (try dsimp only) <;> (repeat' split) <;> simp
@[simp] theorem updatePower_fdr (s : State) : (updatePower s).fdr = s.fdr := by
  unfold updatePower; (try dsimp only) <;> (repeat' split) <;> simp
@[simp] theorem updatePower_srf (s : State) : (updatePower s).srf = s.srf := by
  unfold updatePower; (try dsimp only) <;> (repeat' split) <;> simp
@[simp] theorem frostEvaluate_srf (s : State) : (frostEvaluate s).srf = s.srf := by
  unfold frostEvaluate; (try dsimp only) <;> (repeat' split) <;> simp
@[simp] theorem combustionAppeared_srf (s : State) : (combustionAppeared s).srf = s.srf := by
  unfold combustionAppeared; (try dsimp only) <;> (repeat' split) <;> simp
@[simp] theorem duplicateFound_srf (s : State) : (duplicateFound s).srf = s.srf := by
  unfold duplicateFound; (try dsimp only) <;> (repeat' split) <;> simp
@[simp] theorem adjUpdated_srf (e : PeerEntry) (s : State) : (adjUpdated e s).srf = s.srf := by
  unfold adjUpdated; (try dsimp only) <;> (repeat' split) <;> simp
@[simp] theorem takeCutout_fdr (s : State) : (takeCutout s).fdr = s.fdr := by
  unfold takeCutout; (try dsimp only) <;> (repeat' split) <;> simp
@[simp] theorem evaluatePlume_fdr (s : State) : (evaluatePlume s).fdr = s.fdr := by
  unfold evaluatePlume; (try dsimp only) <;> (repeat' split) <;> simp
@[simp] theorem evaluatePlume_srf (s : State) : (evaluatePlume s).srf = s.srf := by
  unfold evaluatePlume; (try dsimp only) <;> (repeat' split) <;> simp
@[simp] theorem evaluatePlumeOf_fdr (p : Position) (s : State) : (evaluatePlumeOf p s).fdr = s.fdr := by
  unfold evaluatePlumeOf; (try dsimp only) <;> (repeat' split) <;> simp
@[simp] theorem evaluatePlumeOf_srf (p : Position) (s : State) : (evaluatePlumeOf p s).srf = s.srf := by
  unfold evaluatePlumeOf; (try dsimp only) <;> (repeat' split) <;> simp
@[simp] theorem updateOutdoor_fdr (s : State) : (updateOutdoor s).fdr = s.fdr := by
  unfold updateOutdoor; (try dsimp only) <;> (repeat' split) <;> simp
@[simp] theorem updateOutdoor_srf (s : State) : (updateOutdoor s).srf = s.srf := by
  unfold updateOutdoor; (try dsimp only) <;> (repeat' split) <;> simp
@[simp] theorem recordEntry_srf (e : PeerEntry) (s : State) : (recordEntry e s).srf = s.srf := by
  unfold recordEntry; (try dsimp only) <;> (repeat' split) <;> simp
@[simp] theorem failFrame_fdr (f : ShiftedFrame) (s : State) : (failFrame f s).fdr = s.fdr := by
  unfold failFrame; (try dsimp only) <;> (repeat' split) <;> simp
@[simp] theorem filterChange_fdr (s : State) : (filterChange s).fdr = s.fdr := by
  unfold filterChange; (try dsimp only) <;> (repeat' split) <;> simp
@[simp] theorem enterBlocked_fdr (f : Fan) (s : State) : (enterBlocked f s).fdr = s.fdr := by
  unfold enterBlocked; (try dsimp only) <;> (repeat' split) <;> simp
@[simp] theorem driveFan_srf (f : Fan) (a b : Nat) (s : State) : (driveFan f a b s).srf = s.srf := by
  unfold driveFan; (try dsimp only) <;> (repeat' split) <;> simp
@[simp] theorem driveFans_srf (s : State) : (driveFans s).srf = s.srf := by
  unfold driveFans; (try dsimp only) <;> (repeat' split) <;> simp
@[simp] theorem evaluateFilters_fdr (s : State) : (evaluateFilters s).fdr = s.fdr := by
  unfold evaluateFilters evaluatePath countPath evaluateIndex capturePath evaluateSupplyIndex evaluateExtractIndex; dsimp only; (repeat' split) <;> simp [setFilter]
@[simp] theorem clearRetries_srf (s : State) : (clearRetries s).srf = s.srf := by
  unfold clearRetries; (try dsimp only) <;> (repeat' split) <;> simp

end Sys2Proof.Machine
end

