-- ==== Sys2Proof/Laws/Frost.lean ====
section
/-! SUPPORT. What the shared operations of the frost guard and the fan drive do to their own blocks: one equation per
operation, with what it may choose under an existential. -/

namespace Sys2Proof.Machine

theorem breakCaptures_eq (s : State) : ∃ flm, breakCaptures s = { s with flm := flm } := by
  have h : ∀ f (t : State), ∃ flm, breakCapture f t = { t with flm := flm } := by
    intro f t; unfold breakCapture; split
    · exact ⟨t.flm, rfl⟩
    · exact ⟨_, rfl⟩
  obtain ⟨a, ha⟩ := h .sup s
  obtain ⟨b, hb⟩ := h .ext { s with flm := a }
  exact ⟨b, by rw [breakCaptures, ha, hb]⟩

/-- An assessment changes the ice-possible flag, its hold, the ice index and the filter monitor, and nothing else. -/
theorem assessIce_eq (s : State) : ∃ flm flag hold index,
    assessIce s = { s with
      flm := flm, frg := { s.frg with icePossible := flag, iceHold := hold, iceIndex := index } } := by
  unfold assessIce iceCauseHolds iceCauseCeased
  dsimp only
  split
  · split
    · exact ⟨_, _, _, _, rfl⟩
    · exact ⟨_, _, _, _, rfl⟩
  · split
    · exact ⟨_, _, _, _, rfl⟩
    · exact ⟨s.flm, s.frg.icePossible, s.frg.iceHold, s.frg.iceIndex, rfl⟩

/-- A change of the frost state and its assessment. -/
theorem moveTo_eq (st : FrostState) (s : State) : ∃ flm flag hold index,
    moveTo st s = { s with
      flm := flm
      frg := { s.frg with
        state := st, fullPower := none, icePossible := flag, iceHold := hold, iceIndex := index } } := by
  obtain ⟨flm, flag, hold, index, h⟩ := assessIce_eq { s with frg := { s.frg with state := st, fullPower := none } }
  exact ⟨flm, flag, hold, index, h⟩

theorem stage_eq (slot : Slot) (f : Frame) (s : State) : ∃ m, stage slot f s = { s with lnc := m } := ⟨_, rfl⟩

theorem composeState_eq (s : State) : ∃ m, composeState s = { s with lnc := m } := ⟨_, rfl⟩

/-- The balance of S6 and S8 leaves a pair whose flows differ by at most lim, the extract at most the supply under
combustion, and only ever reduces a flow. -/
theorem balancePair_spec (combustion : Bool) (lim : Nat) (p : FlowPair) :
    (balancePair combustion lim p).supply ≤ (balancePair combustion lim p).extract + lim ∧
    (balancePair combustion lim p).extract ≤ (balancePair combustion lim p).supply + lim ∧
    (combustion = true → (balancePair combustion lim p).extract ≤ (balancePair combustion lim p).supply) ∧
    (balancePair combustion lim p).supply ≤ p.supply ∧ (balancePair combustion lim p).extract ≤ p.extract := by
  unfold balancePair limitGap
  cases combustion <;> by_cases h1 : p.supply < p.extract <;> by_cases h2 : p.extract + lim < p.supply <;>
    by_cases h3 : p.supply + lim < p.extract <;> simp [h1, h2, h3] <;> omega

/-- The guard of one fan sets its commanded flow. -/
theorem guardFan_commanded (f : Fan) (q : Nat) (s : State) : (fan (guardFan f q s) f).commanded = q := by
  unfold guardFan; dsimp only; split
  · assumption
  · simp

theorem guardFan_other_sup (q : Nat) (s : State) : fan (guardFan .ext q s) .sup = fan s .sup := by
  unfold guardFan; dsimp only; split <;> rfl

theorem guardFan_other_ext (q : Nat) (s : State) : fan (guardFan .sup q s) .ext = fan s .ext := by
  unfold guardFan; dsimp only; split <;> rfl

/-- The guard leaves the guarded pair as the commanded pair (R26). -/
theorem guardFlows_commanded (b : Bool) (s : State) : commandedPair (guardFlows b s) = guardedPair b s := by
  unfold guardFlows commandedPair
  dsimp only
  rw [guardFan_commanded, guardFan_other_sup, guardFan_commanded]

/-- The guard touches the fan drive only. -/
theorem guardFlows_eq (b : Bool) (s : State) : ∃ fdr, guardFlows b s = { s with fdr := fdr } := by
  have h : ∀ f q (t : State), ∃ fdr, guardFan f q t = { t with fdr := fdr } := by
    intro f q t; unfold guardFan; dsimp only; split
    · exact ⟨t.fdr, rfl⟩
    · exact ⟨_, rfl⟩
  obtain ⟨a, ha⟩ := h .sup (guardedPair b s).supply s
  obtain ⟨c, hc⟩ := h .ext (guardedPair b s).extract { s with fdr := a }
  exact ⟨c, by unfold guardFlows; dsimp only; rw [ha, hc]⟩

/-- Without availability the preheater stands still, and no state is left in PREHEAT (R68, R73). -/
theorem withdrawPreheater_frost (s : State) :
    (withdrawPreheater s).frg.available = false ∧ (withdrawPreheater s).frg.power = 0 ∧
    (withdrawPreheater s).frg.heatOn = false ∧ (withdrawPreheater s).fdr = s.fdr ∧
    (withdrawPreheater s).frg.state = if s.frg.state = .preheat then .reduce else s.frg.state := by
  unfold withdrawPreheater
  dsimp only
  split
  · rename_i h
    obtain ⟨flm, flag, hold, index, e⟩ := moveTo_eq .reduce { s with frg := stopHeat { s.frg with available := false } }
    rw [e]
    have h' : s.frg.state = .preheat := h
    simp [stopHeat, h']
  · rename_i h
    have h' : s.frg.state ≠ .preheat := h
    simp [stopHeat, h']

end Sys2Proof.Machine
end

