-- ==== Sys2Proof/Laws/Fans.lean ====
section
/-! SUPPORT. What the operations of the fan drive do to one fan. -/

namespace Sys2Proof.Machine

open Sys2Proof.Safety

/-- What the fans' change asks of the other blocks leaves the fans alone. -/
theorem fansChanged_fan (s : State) (f) : fan (fansChanged s) f = fan s f := by simp [fan]
theorem evaluateFilters_fan (s : State) (f) : fan (evaluateFilters s) f = fan s f := by simp [fan]

/-- A fan-loop evaluation leaves a fan as its own part leaves it. -/
theorem fanEvaluate_fan (s : State) (f) : fan (fanEvaluate s) f = fan (evaluateFans s) f := by
  have : (fanEvaluate s).fdr.fans =
    (evaluateFilters (fansChanged (evaluateFans s))).fdr.fans := by simp only [fanEvaluate]
  simp only [fan, this]; simp

/-- The settling test changes the state, the settle timer and the retry count. -/
theorem settleUpdate_fields (r : FanRecord) : (settleUpdate r).target = r.target ∧ (settleUpdate r).commanded =
    r.commanded ∧ (settleUpdate r).speedTarget = r.speedTarget ∧ (settleUpdate r).shortfall = r.shortfall ∧
      (settleUpdate r).duty = r.duty ∧ (settleUpdate r).measured = r.measured := by
  unfold settleUpdate settleTest toSettled; (repeat' split) <;> simp
theorem stallUpdate_target (p) (r : FanRecord) : (stallUpdate p r).target = r.target := by
  unfold stallUpdate toFault; (repeat' split) <;> simp
/-- A stall test that does not enter FAULT changes the stall timer only. -/
theorem stallUpdate_fields (p) (r : FanRecord) (h : (stallUpdate p r).state = .fault → r.state = .fault) :
    (stallUpdate p r).target = r.target ∧ (stallUpdate p r).commanded = r.commanded ∧
      (stallUpdate p r).speedTarget = r.speedTarget ∧ (stallUpdate p r).shortfall = r.shortfall ∧
        (stallUpdate p r).duty = r.duty ∧ (stallUpdate p r).measured = r.measured := by
  unfold stallUpdate at *
  split
  · rename_i ht
    rw [if_pos ht] at h
    split
    · rename_i hc
      rw [if_pos hc] at h
      split
      · rename_i hl
        rw [if_pos hl] at h
        have := h rfl
        simp [FanRecord.turning, this] at ht
      · simp
    · simp
  · simp

theorem settleFan_fan (f) (s : State) : fan (settleFan f s) f = settleUpdate (fan s f) := by
  unfold settleFan; dsimp only; split <;> simp [fan, markInactive, setFan]
theorem settleFan_other (f) (s : State) : fan (settleFan f s) (otherFan f) = fan s (otherFan f) := by
  unfold settleFan; dsimp only; split <;> (simp [fan, setFan]; cases f <;> rfl)
theorem stallFan_fan (f) (s : State) : fan (stallFan f s) f = stallUpdate s.params (fan s f) := by
  unfold stallFan; dsimp only; split <;> simp [fan, setFan]
theorem stallFan_other (f) (s : State) : fan (stallFan f s) (otherFan f) = fan s (otherFan f) := by
  unfold stallFan; dsimp only; split <;> (simp [fan, setFan]; cases f <;> rfl)

/-- What the first three parts of an evaluation write into a fan (R17, R29 to R31). -/
theorem driveFans_fan (s : State) (f) : fan (driveFans s) f = { fan s f with
      target := flowOf (resolve s) f, commanded := flowOf (stageS8 s (stageS7 s (resolve s))) f
      speedTarget := speedTarget s f (flowOf (stageS8 s (stageS7 s (resolve s))) f)
      shortfall := shortfallTest s f (flowOf (stageS8 s (stageS7 s (resolve s))) f)
      duty := nextDuty s.params (flowOf (stageS8 s (stageS7 s (resolve s))) f) (speedTarget s f (flowOf (stageS8 s (stageS7 s (resolve s))) f)) (fan s f).measured (fan s f).duty } := by
  cases f
  · rfl
  · rfl

/-- The state updates of an evaluation without its guard (R33, R34). -/
theorem updatedFans_unguarded (s : State) (f) :
    fan (stallFan .ext (stallFan .sup (settleFan .ext (settleFan .sup s)))) f =
      stallUpdate s.params (settleUpdate (fan s f)) := by
  cases f
  · have := stallFan_other .ext (stallFan .sup (settleFan .ext (settleFan .sup s)))
    rw [show otherFan .ext = Fan.sup from rfl] at this
    rw [this, stallFan_fan, show Fan.sup = otherFan .ext from rfl, settleFan_other]
    rw [show otherFan .ext = Fan.sup from rfl, settleFan_fan, (settleFan_kept _ _).params, (settleFan_kept _ _).params]
  · rw [stallFan_fan]
    have := stallFan_other .sup (settleFan .ext (settleFan .sup s))
    rw [show otherFan .sup = Fan.ext from rfl] at this
    rw [this, settleFan_fan]
    have := settleFan_other .sup s
    rw [show otherFan .sup = Fan.ext from rfl] at this
    rw [this, (stallFan_kept _ _).params, (settleFan_kept _ _).params, (settleFan_kept _ _).params]

/-- The guard leaves the targets alone (R26). -/
theorem guardFan_target (f q) (s : State) (g) : (fan (guardFan f q s) g).target = (fan s g).target := by
  unfold guardFan; dsimp only; split
  · rfl
  · cases f <;> cases g <;> rfl

theorem guardFlows_target (b) (s : State) (g) : (fan (guardFlows b s) g).target = (fan s g).target := by
  unfold guardFlows; dsimp only; rw [guardFan_target, guardFan_target]
/-- The guard leaves a FAULT as it is (R26). -/
theorem guardFan_fault (f q) (s : State) (g) (h : (fan s g).state = .fault) : (fan (guardFan f q s) g).state =
    .fault := by
  unfold guardFan; dsimp only; split
  · exact h
  · cases f <;> cases g <;> simp_all [fan, setFan, PerFan.get, PerFan.set]
theorem guardFlows_fault (b) (s : State) (g) (h : (fan s g).state = .fault) : (fan (guardFlows b s) g).state =
    .fault := by
  unfold guardFlows; dsimp only; exact guardFan_fault _ _ _ _ (guardFan_fault _ _ _ _ h)

theorem settleUpdate_fault (r : FanRecord) : (settleUpdate r).state = .fault ↔ r.state = .fault := by
  unfold settleUpdate settleTest toSettled; (repeat' split) <;> simp_all
/-- The guard only reduces (R26). -/
theorem guardedPair_le (b) (s : State) (f) : flowOf (guardedPair b s) f ≤ (fan s f).commanded := by
  unfold guardedPair
  dsimp only
  split
  · split
    · rename_i h; simp [commandedPair] at h; have h' : (fan s .sup).commanded < (fan s .ext).commanded := of_decide_eq_true h.2
      cases f
      · simp [flowOf, commandedPair]
      · simp only [flowOf, commandedPair]; omega
    · cases f <;> simp [flowOf, commandedPair]
  · have := balancePair_spec (combustionFlag s) s.params.lim (commandedPair s)
    cases f
    · exact this.2.2.2.1
    · exact this.2.2.2.2

theorem guardFan_same (f) (s : State) (q) (h : (fan s f).commanded = q) : guardFan f q s = s := by
  unfold guardFan; dsimp only; rw [if_pos h]

/-- The guard of the pair does to each fan what the guard of that fan does. -/
theorem guardFlows_fan (b) (s : State) (f) : fan (guardFlows b s) f =
    fan (guardFan f (flowOf (guardedPair b s) f) s) f := by
  unfold guardFlows; dsimp only
  cases f
  · rw [guardFan_other_sup]; rfl
  · have h := guardFan_other_ext (guardedPair b s).supply s
    obtain ⟨fdr, e⟩ : ∃ fdr, guardFan .sup (guardedPair b s).supply s = { s with fdr := fdr } := by
      unfold guardFan; dsimp only; split
      · exact ⟨s.fdr, rfl⟩
      · exact ⟨_, rfl⟩
    rw [e] at h ⊢
    unfold guardFan; dsimp only; rw [h]
    have sp : ∀ q, speedTarget { s with fdr := fdr } .ext q = speedTarget s .ext q := fun _ => rfl
    simp only [flowOf, sp]
    by_cases hc : (fan s .ext).commanded = (guardedPair b s).extract
    · simp only [hc, if_true]; exact h
    · simp only [hc, if_false, fan_setFan]; rfl

/-- A stopped fan stays as it is under the guard. -/
theorem guardFlows_stopped (b) (s : State) (f) (h : (fan s f).commanded = 0) : fan (guardFlows b s) f = fan s f := by
  have := guardedPair_le b s f
  rw [guardFlows_fan, guardFan_same]; omega
/-- The guard sets the guarded flows. -/
theorem guardFlows_flow (b) (s : State) (f) : (fan (guardFlows b s) f).commanded = flowOf (guardedPair b s) f := by
  rw [guardFlows_fan, guardFan_commanded]

theorem get_set_other {α} (p : PerFan α) (f a) : (p.set f a).get (otherFan f) = p.get (otherFan f) := by cases f <;> rfl

end Sys2Proof.Machine
end

