-- ==== Sys2Proof/Laws/Faults.lean ====
section
/-! SUPPORT. What the operations do to the fault records. -/

namespace Sys2Proof.Machine

@[simp] theorem refreshLamps_faults (s : State) : (refreshLamps s).srf.faults = s.srf.faults := by
  unfold refreshLamps; split <;> rfl
@[simp] theorem faultRecord_refreshLamps (s : State) (k) : faultRecord (refreshLamps s) k = faultRecord s k := by
  simp [faultRecord]

/-- A kind marked active is active (R174). -/
@[simp] theorem markActive_active (s : State) (k) : (faultRecord (markActive k s) k).active = true := by
  unfold markActive; split
  · assumption
  · simp [countFault]

/-- No two kinds share a record. -/
theorem faultIndex_inj {k l : FaultKind} (h : faultIndex k = faultIndex l) : k = l := by
  cases k <;> cases l <;> (try (rename_i a; cases a)) <;> (try (rename_i a; cases a)) <;> first | rfl | exact absurd h (by decide)

/-- Setting one record leaves the others alone. -/
theorem faultRecord_setFault_other (s : State) (k l : FaultKind) (r) (h : l ≠ k) :
    faultRecord (setFault s k r) l = faultRecord s l := by
  have : (faultIndex k).val ≠ (faultIndex l).val := fun e => h (faultIndex_inj (Fin.ext e)).symm
  simp [faultRecord, setFault, this]

theorem faultRecord_markActive_other (s : State) (k l : FaultKind) (h : l ≠ k) :
    faultRecord (markActive k s) l = faultRecord s l := by
  unfold markActive; split
  · rfl
  · exact faultRecord_setFault_other _ _ _ _ h

theorem faultRecord_of_srf {s t : State} (h : t.srf = s.srf) (k) : faultRecord t k = faultRecord s k := by
  simp [faultRecord, h]

/-- A save request may change MEMORY_WRITE only (R169). -/
theorem requestSave_faultRecord (s : State) (k) (h : k ≠ .memoryWrite) : faultRecord (requestSave s) k =
    faultRecord s k := by
  unfold requestSave; split
  · rfl
  · split
    · exact faultRecord_of_srf (by simp) _
    · exact faultRecord_markActive_other _ _ _ h
  · rfl
theorem requestSaves_faultRecord (n) (s : State) (k) (h : k ≠ .memoryWrite) : faultRecord (requestSaves n s) k =
    faultRecord s k := by
  induction n generalizing s with
  | zero => rfl
  | succ n ih => rw [requestSaves, ih, requestSave_faultRecord _ _ h]

/-- A filter evaluation may change MEMORY_WRITE only. -/
theorem evaluateFilters_faultRecord (s : State) (k) (h : k ≠ .memoryWrite) : faultRecord (evaluateFilters s) k =
    faultRecord s k := by
  unfold evaluateFilters; dsimp only
  rw [requestSaves_faultRecord _ _ _ h]
  apply faultRecord_of_srf
  unfold evaluatePath countPath evaluateIndex capturePath evaluateSupplyIndex evaluateExtractIndex; dsimp only; (repeat' split) <;> simp [setFilter]

/-- The fan state tests may change the two FAN kinds only (R33, R34). -/
theorem settleFan_faultRecord (f) (s : State) (k) (h : ∀ f, k ≠ .fan f) : faultRecord (settleFan f s) k =
    faultRecord s k := by
  unfold settleFan; dsimp only; split
  · rw [markInactive, faultRecord_setFault_other _ _ _ _ (h f)]; rfl
  · rfl
theorem stallFan_faultRecord (f) (s : State) (k) (h : ∀ f, k ≠ .fan f) : faultRecord (stallFan f s) k =
    faultRecord s k := by
  unfold stallFan; dsimp only; split
  · rw [faultRecord_markActive_other _ _ _ (h f)]; rfl
  · rfl
theorem fanEvaluate_faultRecord (s : State) (k) (h : k ≠ .memoryWrite) (h' : ∀ f, k ≠ .fan f) :
    faultRecord (fanEvaluate s) k = faultRecord s k := by
  have e : (fanEvaluate s).srf = (evaluateFilters (fansChanged (evaluateFans s))).srf := by simp only [fanEvaluate]
  rw [faultRecord_of_srf e]
  rw [evaluateFilters_faultRecord _ _ h, faultRecord_of_srf (fansChanged_srf _)]
  unfold evaluateFans updateFanStates stallFans; dsimp only; split
  · rw [faultRecord_of_srf (guardFlows_srf _ _), stallFan_faultRecord _ _ _ h', stallFan_faultRecord _ _ _ h',
    settleFan_faultRecord _ _ _ h', settleFan_faultRecord _ _ _ h']; exact faultRecord_of_srf (by simp) _
  · rw [stallFan_faultRecord _ _ _ h', stallFan_faultRecord _ _ _ h', settleFan_faultRecord _ _ _ h',
    settleFan_faultRecord _ _ _ h']; exact faultRecord_of_srf (by simp) _

theorem takeCutout_faultRecord (s : State) (k) (h : k ≠ .preheatCutout) : faultRecord (takeCutout s) k =
    faultRecord s k := by
  unfold takeCutout
  rw [faultRecord_of_srf (refreshAvailability_srf _)]
  split
  · rw [markInactive, faultRecord_setFault_other _ _ _ _ h]
  · exact faultRecord_markActive_other _ _ _ h

theorem takeCombustion_srf (s : State) : (takeCombustion s).srf = s.srf := by
  unfold takeCombustion insertCombustion; (repeat' split) <;> simp
theorem takeUpStack_srf (s : State) : (takeUpStack s).srf = s.srf := by
  unfold takeUpStack; simp [takeCombustion_srf, takeAway]
theorem takeUpFlows_faultRecord (o) (s : State) (k) (h : k ≠ .memoryWrite) (h' : ∀ f, k ≠ .fan f) :
    faultRecord (takeUpFlows o s) k = faultRecord s k := by
  unfold takeUpFlows; split
  · rw [faultRecord_of_srf (takeUpStack_srf _), fanEvaluate_faultRecord _ _ h h']
  · rw [faultRecord_of_srf (takeUpStack_srf _)]; rfl
theorem placeRecords_faultRecord (r) (s : State) (k) (h : k ≠ .memoryWrite) (h' : k ≠ .filterBlocked) :
    faultRecord (placeRecords r s) k = faultRecord s k := by
  unfold placeRecords; dsimp only; split
  · rw [faultRecord_markActive_other _ _ _ h', requestSaves_faultRecord _ _ _ h]; rfl
  · rw [requestSaves_faultRecord _ _ _ h]; rfl
theorem takeImage_config (img) (s : State) (h : checkConfig img ≠ .ok) :
    (faultRecord (takeImage img s) .configDefaults).active = true := by
  unfold takeImage markIf
  have : (checkConfig img != .ok) = true := by simp [h]
  rw [if_pos this]
  split
  · rw [faultRecord_markActive_other _ _ _ (by simp)]; simp
  · simp
theorem takeImage_lost (img) (s : State) (h : (recordsInUse img).1 ≠ .ok) :
    (faultRecord (takeImage img s) .recordsLost).active = true := by
  unfold takeImage markIf
  have : ((recordsInUse img).1 != .ok) = true := by simp [h]
  rw [if_pos this]; simp


end Sys2Proof.Machine
end

