-- ==== Sys2Proof/Laws/Keeps.lean ====
section
/-! SUPPORT. What a property must be kept by so that every step keeps it: one field per effect of a command, and the theorem
that goes through all commands once. -/

namespace Sys2Proof.Machine
open Sys2Proof.Safety

/-- `P` is kept by the passing of time, by the lamps, by a change of the queue and by the effect of every command in `on`. -/
structure Keeps (on : Instr → Prop) (P : State → Prop) : Prop where
  pending : ∀ s q, P s → P { s with pending := q }
  time : ∀ d s, P s → P (passTime d s)
  lamps : ∀ s, P s → P (refreshLamps s)
  power : ∀ i b s, on i → ofSupply i = true → P s → P (powerOnState b (cutSave s))
  look : ∀ i status order s, on i → mayComplete i = true → s.powered = true → loading s → P s → P (lookAtMemory status order s)
  complete : ∀ i order img s, on i → mayComplete i = true → s.powered = true → loading s → P s → P (completeLoad order img s)
  conversion : ∀ ch raw s, on (.conversionComplete ch raw) → s.powered = true → P s →
    P (takeConversion ch (sampleOf ch raw) s)
  hold : ∀ ch s, on (.holdTimerExpiry ch) → s.powered = true → P s → P (expireHold ch s)
  pulse : ∀ f high low s, on (.tachEdge f high low) → s.powered = true → P s →
    P { s with msc := countPulse f high low s.msc }
  scan : ∀ s, on .scanCompletion → s.powered = true → P s → P (completeScan s)
  evaluation : ∀ s, on .fanEvaluation → inService s = true → P s → P (fanEvaluate s)
  settle : ∀ f s, on (.settleTimerExpiry f) → inService s = true → P s → P (settleAtLimit f s)
  stall : ∀ f s, on (.stallTimerExpiry f) → inService s = true → P s → P (stallAtLimit f s)
  retry : ∀ f s, on (.retryPauseExpiry f) → inService s = true → P s → P (endRetryPause f s)
  pin : ∀ pin high s, on (.inputLevelChange pin high) → P s → P (setPin pin high s)
  boost : ∀ s, on .boostDebounceExpiry → s.powered = true → P s → P (boostDebounced s)
  away : ∀ s, on .awayDebounceExpiry → s.powered = true → P s → P (awayDebounced s)
  combustion : ∀ s, on .combustionDebounceExpiry → s.powered = true → P s → P (combustionDebounced s)
  count : ∀ s, on .countdownTick → inService s = true → P s → P (tick s)
  expire : ∀ s, on .remainingTimeExpiry → inService s = true → P s → P (setStack (expireTop s.params s.mst) s)
  climate : ∀ s, on .climateTimerExpiry → inService s = true → P s → P (evaluateClimate s)
  frost : ∀ s, on .frostEvaluation → inService s = true → P s → P (frostEvaluate s)
  fullPower : ∀ s, on .fullPowerTimerExpiry → inService s = true → P s → P (endPreheat s)
  holdoff : ∀ s, on .holdoffExpiry → inService s = true → P s → P (endHoldoff s)
  thaw : ∀ s, on .thawTimerExpiry → inService s = true → P s → P (thawTimedOut s)
  recover : ∀ s, on .recoverTimerExpiry → inService s = true → P s → P (endRecover s)
  timedThaw : ∀ s, on .timedThawExpiry → inService s = true → P s → P (endTimedThaw s)
  iceHold : ∀ s, on .icePossibleHoldExpiry → inService s = true → P s → P (endIceHold s)
  heat : ∀ s, on .heatOnTimeExpiry → inService s = true → P s → P (endHeatOn s)
  cutout : ∀ s, on .cutoutDebounceExpiry → s.powered = true → P s → P (cutoutDebounced s)
  filterRecord : ∀ i f op s, on i → countsFilters i = true → inService s = true → P s → P (onRecord f op s)
  blocked : ∀ f s, on (.blockedTimerExpiry f) → inService s = true → P s → P (enterBlocked f s)
  capture : ∀ f s, on (.captureQualificationExpiry f) → inService s = true → P s → P (captureAtLimit f s)
  filterButton : ∀ s, on .filterDebounceExpiry → s.powered = true → P s → P (filterDebounced s)
  filterHold : ∀ s, on .filterHoldExpiry → inService s = true → P s → P (filterHeld s)
  save : ∀ i sv status s, on i → writesMemory i = true → inService s = true → P s → P (lookAtSave sv status s)
  byteFailed : ∀ i sv s, on i → writesMemory i = true → inService s = true → P s → P (failByte sv s)
  byteWritten : ∀ i sv s, on i → writesMemory i = true → inService s = true → P s → P (byteWritten sv s)
  humidity : ∀ s, on .humidityEvaluation → inService s = true → P s → P (humidityEvaluate s)
  idle : ∀ s, on .idleSpaceReached → inService s = true → P s → P (reachIdle s)
  dominant : ∀ s, on .dominantSampleInWaiting → inService s = true → P s → P (dominantSample s)
  contention : ∀ c s, on (.contentionBegin c) → inService s = true → P s → P (beginContention c s)
  lost : ∀ bit s, on (.contentionLost bit) → inService s = true → P s → P (loseContention s)
  bitError : ∀ f s, on .bitError → inService s = true → P s → P (failFrame f s)
  success : ∀ f s, on .frameSuccess → inService s = true → P s → P (succeed f s)
  discarded : ∀ i fault sender kind s, on i → discardsFrame i = true → inService s = true → P s → P (Machine.discard fault sender kind s)
  stuck : ∀ s, on .stuck → inService s = true → P s → P (declareStuck s)
  stuckReception : ∀ s, on .stuck → inService s = true → P s → P (declareStuck (setLine (toWaiting s.lnc) s))
  heard : ∀ i sender s, on i → ofOtherStation i = true → inService s = true → receiving s = true → P s → P (heardState sender s)
  duplicate : ∀ i s, on i → ofOtherStation i = true → inService s = true → receiving s = true → P s → P (findDuplicate s)
  stateFrame : ∀ sender payload s, on (.stateFrame sender payload) → inService s = true → s.params.position ≠ some sender → P s →
    P (hearState sender payload s)
  intentFrame : ∀ sender payload s, on (.intentFrame sender payload) → inService s = true → s.params.position ≠ some sender → P s →
    P (hearIntent sender payload s)
  endFrame : ∀ sender payload s, on (.endFrame sender payload) → inService s = true → s.params.position ≠ some sender → P s →
    P (hearEnd sender payload s)
  query : ∀ i space payload s, on i → ofOtherStation i = true → inService s = true → P s → P (answerQuery space payload s)
  clearCapture : ∀ sender payload s, on (.clearLineCapture sender payload) → inService s = true → P s → P (emptyCapture s)
  clearFaults : ∀ sender payload s, on (.clearFaultCounts sender payload) → inService s = true → P s → P (clearCounts s)
  clearRetry : ∀ sender payload s, on (.clearFanRetry sender payload) → inService s = true → P s → P (clearRetries s)
  quiet : ∀ s, on .quietTimerExpiry → inService s = true → P s → P (endQuiet s)
  listenIn : ∀ s, on .listenInExpiry → inService s = true → P s → P (endListenIn s)
  statePeriod : ∀ s, on .statePeriodExpiry → inService s = true → P s → P (composeState s)
  ageing : ∀ s, on .ageingTick → inService s = true → P s → P (ageEntries s)
  entryGone : ∀ p s, on (.peerEntryExpiry p) → inService s = true → P s → P (expireEntry p s)
  plumeHold : ∀ s, on .plumeHoldExpiry → inService s = true → P s → P (endPlume s)
  flash : ∀ lamp s, on (.lampFlashStep lamp) → inService s = true → P s → P (flashStep lamp s)

namespace Keeps
variable {on : Instr → Prop} {P : State → Prop} (k : Keeps on P)
include k

/-- A meaning in service whose effect keeps `P`. -/
theorem served {effect : State → State} {s t : State} (h : whenInService effect s = .next t)
    (keeps : inService s = true → P s → P (effect s)) (hs : P s) : P t := whenInService_keeps k.lamps keeps h hs

/-- A meaning with supply whose effect keeps `P`. -/
theorem supplied {effect : State → State} {s t : State} (h : whenPowered effect s = .next t)
    (keeps : s.powered = true → P s → P (effect s)) (hs : P s) : P t := whenPowered_keeps k.lamps keeps h hs

/-- A timed effect in service. -/
theorem timed (limit : Nat) (timer : Option Nat) {effect : State → State} (s : State) (hi : inService s = true)
    (keeps : ∀ s, inService s = true → P s → P (effect s)) (hs : P s) : P (atLimit limit timer effect s) :=
  atLimit_to (P := fun s => inService s = true ∧ P s) (Q := P) (fun d s h => ⟨by simpa using h.1, k.time d s h.2⟩)
    limit timer s hs (fun s h => keeps s h.1 h.2) ⟨hi, hs⟩

/-- A timed effect in a part with supply. -/
theorem timedSupplied (limit : Nat) (timer : Option Nat) {effect : State → State} (s : State) (hi : s.powered = true)
    (keeps : ∀ s, s.powered = true → P s → P (effect s)) (hs : P s) : P (atLimit limit timer effect s) :=
  atLimit_to (P := fun s => s.powered = true ∧ P s) (Q := P) (fun d s h => ⟨by simpa using h.1, k.time d s h.2⟩)
    limit timer s hs (fun s h => keeps s h.1 h.2) ⟨hi, hs⟩

/-- A timed effect of the start load. -/
theorem timedLoading (limit : Nat) (timer : Option Nat) {effect : State → State} (s : State) (hi : s.powered = true)
    (hl : loading s) (keeps : ∀ s, s.powered = true → loading s → P s → P (effect s)) (hs : P s) :
    P (atLimit limit timer effect s) :=
  atLimit_to (P := fun s => s.powered = true ∧ loading s ∧ P s) (Q := P)
    (fun d s h => ⟨by simpa using h.1, by simpa [loading] using h.2.1, k.time d s h.2.2⟩)
    limit timer s hs (fun s h => keeps s h.1 h.2.1 h.2.2) ⟨hi, hl, hs⟩

/-- As `timed`, for a timer that holds the time left. -/
theorem timedEnd (left : Option Nat) {effect : State → State} (s : State) (hi : inService s = true)
    (keeps : ∀ s, inService s = true → P s → P (effect s)) (hs : P s) : P (atEnd left effect s) :=
  atEnd_to (P := fun s => inService s = true ∧ P s) (Q := P) (fun d s h => ⟨by simpa using h.1, k.time d s h.2⟩)
    left s hs (fun s h => keeps s h.1 h.2) ⟨hi, hs⟩

/-- An effect at the end of a reception. -/
theorem judged (v : Verdict) {effect : State → State} (s : State) (hi : inService s = true)
    (keeps : ∀ s, inService s = true → receiving s = true → P s → P (effect s)) (hs : P s) : P (whenJudged v effect s) := by
  rcases whenJudged_cases v effect s with h | ⟨d, hr, -, h⟩ <;> rw [h]
  · exact hs
  · exact keeps _ (by simpa using hi) (by simpa [receiving] using hr) (k.time d s hs)

/-- An effect at the end of a sending. -/
theorem compared (v : SendVerdict) {effect : ShiftedFrame → State → State} (s : State) (hi : inService s = true)
    (keeps : ∀ f s, inService s = true → P s → P (effect f s)) (hs : P s) : P (whenCompared v effect s) := by
  rcases whenCompared_cases v effect s with h | ⟨f, d, -, -, h⟩ <;> rw [h]
  · exact hs
  · exact keeps _ _ (by simpa using hi) (k.time d s hs)

/-- A correct frame of another station (R127). -/
theorem received (i : Instr) (ho : on i) (hf : ofOtherStation i = true) (kind : FrameKind) (sender : Position)
    (payload : List Byte) {handOn : State → State} (s : State) (hi : inService s = true)
    (keeps : ∀ s, inService s = true → s.params.position ≠ some sender → P s → P (handOn s)) (hs : P s) :
    P (receive kind sender payload handOn s) := by
  refine k.judged _ s hi (fun s hi hr hs => ?_) hs
  have hh := k.heard i sender s ho hf hi hr hs
  rcases accept_cases sender handOn s with h | ⟨hp, h⟩ <;> rw [h]
  · exact k.duplicate i _ ho hf hi hr hh
  · exact keeps _ hi hp hh

omit k in
/-- A CLEAR the responder takes (R173). -/
theorem cleared (item : Nat) (payload : List Byte) {effect : State → State} (s : State) (hi : inService s = true)
    (keeps : ∀ s, inService s = true → P s → P (effect s)) (hs : P s) : P (takeClear item effect payload s) := by
  unfold takeClear; split
  · split
    · exact keeps _ hi hs
    · exact hs
  · exact hs

omit k in
/-- The start load is in a phase. -/
theorem inPhase (phase : LoadPhase) {effect : State → State} (s : State)
    (keeps : loading s → P s → P (effect s)) (hs : P s) : P (if loadingIn phase s then effect s else s) := by
  split
  · rename_i h; simp [loadingIn] at h; exact keeps h.1 hs
  · exact hs

/-- Every command in `on` keeps `P`. -/
theorem exec (i : Instr) (ho : on i) {s t : State} (h : Machine.exec i s = .next t) (hs : P s) : P t := by
  cases i <;> unfold Machine.exec at h <;> dsimp only at h
  case powerOn => injection h with h; subst h; exact k.power _ _ _ ho rfl hs
  case powerLoss => injection h with h; subst h; exact k.power _ _ _ ho rfl hs
  case settlingWaitExpiry a b =>
    exact k.supplied h (fun hp => inPhase _ _ fun hl => k.timedLoading _ _ s hp hl (fun s => k.look _ a b s ho rfl)) hs
  case memoryBusyPoll a b =>
    exact k.supplied h (fun hp => inPhase _ _ fun hl => k.timedLoading _ _ s hp hl (fun s => k.look _ a b s ho rfl)) hs
  case memoryBusyTimeout b =>
    exact k.supplied h (fun hp => inPhase _ _ fun hl => k.timedLoading _ _ s hp hl (fun s => k.complete _ b none s ho rfl)) hs
  case startLoadCompletion b =>
    exact k.supplied h (fun hp => inPhase _ _ fun hl => k.complete _ b (some (readImage s.memory)) s ho rfl hp hl) hs
  case conversionComplete ch raw => exact k.supplied h (k.conversion ch raw s ho) hs
  case holdTimerExpiry ch => exact k.supplied h (fun hp => k.timedSupplied _ _ s hp (fun s => k.hold ch s ho)) hs
  case tachEdge f a b => exact k.supplied h (k.pulse f a b s ho) hs
  case scanCompletion => exact k.supplied h (fun hp => k.timedSupplied _ _ s hp fun s => k.scan s ho) hs
  case fanEvaluation => exact k.served h (fun hp => k.timed _ _ s hp fun s => k.evaluation s ho) hs
  case settleTimerExpiry f => exact k.served h (k.settle f s ho) hs
  case stallTimerExpiry f => exact k.served h (k.stall f s ho) hs
  case retryPauseExpiry f => exact k.served h (fun hp => k.timedEnd _ s hp (fun s => k.retry f s ho)) hs
  case inputLevelChange p b => injection h with h; subst h; exact k.pin _ _ _ ho hs
  case boostDebounceExpiry => exact k.supplied h (fun hp => k.timedSupplied _ _ s hp fun s => k.boost s ho) hs
  case awayDebounceExpiry => exact k.supplied h (fun hp => k.timedSupplied _ _ s hp fun s => k.away s ho) hs
  case combustionDebounceExpiry => exact k.supplied h (fun hp => k.timedSupplied _ _ s hp fun s => k.combustion s ho) hs
  case countdownTick => exact k.served h (fun hp => k.timed _ _ s hp fun s => k.count s ho) hs
  case remainingTimeExpiry => exact k.served h (k.expire s ho) hs
  case climateTimerExpiry => exact k.served h (fun hp => k.timed _ _ s hp fun s => k.climate s ho) hs
  case frostEvaluation => exact k.served h (fun hp => k.timed _ _ s hp fun s => k.frost s ho) hs
  case fullPowerTimerExpiry => exact k.served h (k.fullPower s ho) hs
  case holdoffExpiry => exact k.served h (fun hp => k.timed _ _ s hp fun s => k.holdoff s ho) hs
  case thawTimerExpiry => exact k.served h (fun hp => k.timed _ _ s hp fun s => k.thaw s ho) hs
  case recoverTimerExpiry => exact k.served h (fun hp => k.timed _ _ s hp fun s => k.recover s ho) hs
  case timedThawExpiry => exact k.served h (fun hp => k.timed _ _ s hp fun s => k.timedThaw s ho) hs
  case icePossibleHoldExpiry => exact k.served h (fun hp => k.timed _ _ s hp fun s => k.iceHold s ho) hs
  case heatOnTimeExpiry => exact k.served h (fun hp => k.timedEnd _ s hp fun s => k.heat s ho) hs
  case cutoutDebounceExpiry => exact k.supplied h (fun hp => k.timedSupplied _ _ s hp fun s => k.cutout s ho) hs
  case volumeRollover f => exact k.served h (k.filterRecord _ f _ s ho rfl) hs
  case runHourRollover f => exact k.served h (k.filterRecord _ f _ s ho rfl) hs
  case dueHoursExpiry f => exact k.served h (k.filterRecord _ f _ s ho rfl) hs
  case blockedTimerExpiry f => exact k.served h (fun hp => k.timed _ _ s hp (fun s => k.blocked f s ho)) hs
  case captureQualificationExpiry f => exact k.served h (k.capture f s ho) hs
  case filterDebounceExpiry => exact k.supplied h (fun hp => k.timedSupplied _ _ s hp fun s => k.filterButton s ho) hs
  case filterHoldExpiry => exact k.served h (fun hp => k.timed _ _ s hp fun s => k.filterHold s ho) hs
  case saveStatusPoll status =>
    refine k.served h (fun hp hs => ?_) hs
    split
    · exact hs
    · exact k.timed _ _ s hp (fun s => k.save _ _ _ s ho rfl) hs
  case saveByteTimeout =>
    refine k.served h (fun hp hs => ?_) hs
    split
    · exact hs
    · exact k.timed _ _ s hp (fun s => k.byteFailed _ _ s ho rfl) hs
  case saveByteReadback value =>
    refine k.served h (fun hp hs => ?_) hs
    split
    · exact hs
    · split
      · exact k.byteWritten _ _ s ho rfl hp hs
      · exact k.byteFailed _ _ s ho rfl hp hs
  case humidityEvaluation => exact k.served h (fun hp => k.timed _ _ s hp fun s => k.humidity s ho) hs
  case idleSpaceReached =>
    refine k.served h (fun hp hs => ?_) hs
    split
    · exact k.timed _ _ s hp (fun s => k.idle s ho) hs
    · exact hs
  case contentionBegin c => exact k.served h (k.contention c s ho) hs
  case contentionLost bit => exact k.served h (fun hp => k.compared _ s hp fun _ s => k.lost bit s ho) hs
  case bitError => exact k.served h (fun hp => k.compared _ s hp fun f s => k.bitError f s ho) hs
  case frameSuccess => exact k.served h (fun hp => k.compared _ s hp fun f s => k.success f s ho) hs
  case stuffingViolation a b => exact k.served h (fun hp => k.judged _ s hp fun s hi _ => k.discarded _ _ _ _ s ho rfl hi) hs
  case crcError a b => exact k.served h (fun hp => k.judged _ s hp fun s hi _ => k.discarded _ _ _ _ s ho rfl hi) hs
  case formError a b => exact k.served h (fun hp => k.judged _ s hp fun s hi _ => k.discarded _ _ _ _ s ho rfl hi) hs
  case frameTimeout a b => exact k.served h (fun hp => k.judged _ s hp fun s hi _ => k.discarded _ _ _ _ s ho rfl hi) hs
  case stuck =>
    refine k.served h (fun hp hs => ?_) hs
    rcases stuckLine_cases s with h | h | ⟨d, -, -, h⟩ <;> rw [h]
    · exact hs
    · exact k.stuck s ho hp hs
    · exact k.stuckReception _ ho (by simpa using hp) (k.time d s hs)
  case stateFrame p l => exact k.served h (fun hp => k.received _ ho rfl _ p l s hp (fun s => k.stateFrame p l s ho)) hs
  case intentFrame p l => exact k.served h (fun hp => k.received _ ho rfl _ p l s hp (fun s => k.intentFrame p l s ho)) hs
  case endFrame p l => exact k.served h (fun hp => k.received _ ho rfl _ p l s hp (fun s => k.endFrame p l s ho)) hs
  case replyFrame p l => exact k.served h (fun hp => k.received _ ho rfl _ p l s hp (fun _ _ _ h => h)) hs
  case queryStatus p l => exact k.served h (fun hp => k.received _ ho rfl _ p l s hp (fun s hi _ => k.query _ _ l s ho rfl hi)) hs
  case queryFilters p l => exact k.served h (fun hp => k.received _ ho rfl _ p l s hp (fun s hi _ => k.query _ _ l s ho rfl hi)) hs
  case queryPeers p l => exact k.served h (fun hp => k.received _ ho rfl _ p l s hp (fun s hi _ => k.query _ _ l s ho rfl hi)) hs
  case queryModes p l => exact k.served h (fun hp => k.received _ ho rfl _ p l s hp (fun s hi _ => k.query _ _ l s ho rfl hi)) hs
  case queryFaults p l => exact k.served h (fun hp => k.received _ ho rfl _ p l s hp (fun s hi _ => k.query _ _ l s ho rfl hi)) hs
  case queryLine p l => exact k.served h (fun hp => k.received _ ho rfl _ p l s hp (fun s hi _ => k.query _ _ l s ho rfl hi)) hs
  case clearLineCapture p l =>
    exact k.served h (fun hp => k.received _ ho rfl _ p l s hp (fun s hi _ => cleared _ l s hi fun s => k.clearCapture p l s ho)) hs
  case clearFaultCounts p l =>
    exact k.served h (fun hp => k.received _ ho rfl _ p l s hp (fun s hi _ => cleared _ l s hi fun s => k.clearFaults p l s ho)) hs
  case clearFanRetry p l =>
    exact k.served h (fun hp => k.received _ ho rfl _ p l s hp (fun s hi _ => cleared _ l s hi fun s => k.clearRetry p l s ho)) hs
  case quietTimerExpiry => exact k.served h (fun hp => k.timed _ _ s hp fun s => k.quiet s ho) hs
  case listenInExpiry => exact k.served h (fun hp => k.timed _ _ s hp fun s => k.listenIn s ho) hs
  case statePeriodExpiry => exact k.served h (fun hp => k.timed _ _ s hp fun s => k.statePeriod s ho) hs
  case ageingTick => exact k.served h (fun hp => k.timed _ _ s hp fun s => k.ageing s ho) hs
  case peerEntryExpiry p => exact k.served h (k.entryGone p s ho) hs
  case plumeHoldExpiry => exact k.served h (fun hp => k.timed _ _ s hp fun s => k.plumeHold s ho) hs
  case lampFlashStep l => exact k.served h (fun hp => k.timed _ _ s hp (fun s => k.flash l s ho)) hs
  case dominantSampleInWaiting =>
    refine k.served h (fun hp hs => ?_) hs
    unfold dominantInWaiting; split
    · exact k.dominant _ ho (by simpa using hp) (k.time _ s hs)
    · exact hs

/-- Every step keeps `P`, where `on` holds of every command. -/
theorem step (all : ∀ i, on i) {s t : State} (h : Machine.step s = .next t) (hs : P s) : P t := by
  unfold Machine.step at h
  split at h
  · injection h with h; subst h; exact k.time _ _ hs
  · exact k.exec _ (all _) h (k.pending _ _ hs)

end Keeps

end Sys2Proof.Machine
end

