-- ==== Sys2Proof/Laws/Memory.lean ====
section
/-! SUPPORT. The serial memory: reading after writing, and the canonical form. -/

namespace Sys2Proof.Machine

theorem cellsAbove_mono {a b : Nat} (h : a ≤ b) : ∀ {m : List Host.Cell}, cellsAbove b m = true → cellsAbove a m = true
  | [], _ => rfl
  | (k, v) :: rest, hm => by
    simp only [cellsAbove, Bool.and_eq_true, decide_eq_true_eq] at hm ⊢
    exact ⟨⟨by omega, hm.1.2⟩, hm.2⟩

/-- An address below every listed one reads as the unlisted value. -/
theorem readByte_below {m : List Host.Cell} : ∀ {low a : Nat}, cellsAbove low m = true → a < low → readByte m a = erasedByte := by
  induction m with
  | nil => intros; rfl
  | cons c rest ih =>
    obtain ⟨k, v⟩ := c
    intro low a h ha
    simp only [cellsAbove, Bool.and_eq_true, decide_eq_true_eq] at h
    have hk : k ≠ a := by omega
    simp only [readByte, if_neg hk]
    exact ih h.2 (by omega)

/-- A written byte reads back. -/
theorem readByte_writeByte_same (a : Nat) (v : Byte) :
    ∀ {m : List Host.Cell} {low : Nat}, cellsAbove low m = true → readByte (writeByte a v m) a = v
  | [], _, _ => by
    unfold writeByte; split
    · rename_i h; simp [readByte, h]
    · simp [readByte]
  | (k, b) :: rest, low, h => by
    simp only [cellsAbove, Bool.and_eq_true, decide_eq_true_eq] at h
    unfold writeByte
    split
    · rename_i hk
      have : k ≠ a := by omega
      simp only [readByte, if_neg this]
      exact readByte_writeByte_same a v h.2
    · split
      · rename_i hk
        split
        · rename_i hv; subst hk; rw [hv]; exact readByte_below h.2 (by omega)
        · simp [readByte]
      · split
        · rename_i hv
          have : k ≠ a := by omega
          simp only [readByte, if_neg this, hv]
          exact readByte_below h.2 (by omega)
        · simp [readByte]

/-- Every other byte reads as before. -/
theorem readByte_writeByte_other (a x : Nat) (v : Byte) (hx : x ≠ a) :
    ∀ {m : List Host.Cell} {low : Nat}, cellsAbove low m = true → readByte (writeByte a v m) x = readByte m x
  | [], _, _ => by
    unfold writeByte; split
    · rfl
    · simp [readByte, Ne.symm hx]
  | (k, b) :: rest, low, h => by
    simp only [cellsAbove, Bool.and_eq_true, decide_eq_true_eq] at h
    unfold writeByte
    split
    · simp only [readByte]
      split
      · rfl
      · exact readByte_writeByte_other a x v hx h.2
    · split
      · rename_i hk
        split
        · have : k ≠ x := by omega
          simp [readByte, this]
        · have : k ≠ x := by omega
          simp [readByte, this, Ne.symm hx]
      · split
        · rfl
        · simp [readByte, Ne.symm hx]

/-- A write keeps the canonical form. -/
theorem cellsAbove_writeByte (a : Nat) (v : Byte) :
    ∀ {m : List Host.Cell} {low : Nat}, low ≤ a → cellsAbove low m = true → cellsAbove low (writeByte a v m) = true
  | [], low, hl, _ => by
    unfold writeByte; split
    · rfl
    · rename_i hv; simp [cellsAbove, hl, hv]
  | (k, b) :: rest, low, hl, h => by
    simp only [cellsAbove, Bool.and_eq_true, decide_eq_true_eq] at h
    unfold writeByte
    split
    · rename_i hk
      simp only [cellsAbove, Bool.and_eq_true, decide_eq_true_eq]
      exact ⟨h.1, cellsAbove_writeByte a v (by omega) h.2⟩
    · split
      · rename_i hk
        split
        · exact cellsAbove_mono (by omega) h.2
        · rename_i hv
          simp only [cellsAbove, Bool.and_eq_true, decide_eq_true_eq]
          exact ⟨⟨hl, by simpa using hv⟩, by simpa [hk] using h.2⟩
      · split
        · simp only [cellsAbove, Bool.and_eq_true, decide_eq_true_eq]
          exact h
        · rename_i hk1 hk2 hv
          simp only [cellsAbove, Bool.and_eq_true, decide_eq_true_eq]
          exact ⟨⟨hl, by simpa using hv⟩, ⟨⟨by omega, h.1.2⟩, h.2⟩⟩

/-- A write keeps the canonical form. -/
theorem Memory.wf_writeByte (a : Nat) (v : Byte) {m : List Host.Cell} (h : Memory.wf m = true) :
    Memory.wf (writeByte a v m) = true := cellsAbove_writeByte a v (Nat.zero_le a) h

/-- What becomes of the memory when a save ends early: one byte or none is written. -/
theorem byteUndecided_memory (sv : Save) (s : State) :
    (byteUndecided sv s).memory = s.memory ∨
      (byteUndecided sv s).memory = writeByte (saveAddress sv) (saveByte sv) s.memory := by
  unfold byteUndecided
  dsimp only
  split
  · exact .inr rfl
  · exact .inl rfl

theorem byteUndecided_wf (sv : Save) (s : State) (h : Memory.wf s.memory = true) :
    Memory.wf (byteUndecided sv s).memory = true := by
  rcases byteUndecided_memory sv s with e | e <;> rw [e]
  · exact h
  · exact Memory.wf_writeByte _ _ h

@[simp] theorem beginSave_memory (s : State) : (beginSave s).memory = s.memory := rfl

@[simp] theorem endSave_memory (s : State) : (endSave s).memory = s.memory := by
  unfold endSave; split <;> rfl

@[simp] theorem markActive_memory (k : FaultKind) (s : State) : (markActive k s).memory = s.memory := by
  unfold markActive; split <;> rfl

@[simp] theorem failByte_memory (sv : Save) (s : State) : (failByte sv s).memory = (byteUndecided sv s).memory := by
  simp [failByte]

@[simp] theorem completeSave_memory (s : State) : (completeSave s).memory = s.memory := by
  simp [completeSave, markInactive]

/-- A byte that has read back as written stands in the memory. -/
theorem byteWritten_memory (sv : Save) (s : State) :
    (byteWritten sv s).memory = writeByte (saveAddress sv) (saveByte sv) s.memory := by
  unfold byteWritten
  dsimp only
  split
  · rfl
  · simp

/-- Memory.wf holds at reset. -/
theorem reset_memory_wf : Memory.wf State.reset.memory = true := rfl

end Sys2Proof.Machine
end

