-- ==== Sys2Proof/Laws/Rules.lean ====
section
/-! SUPPORT. What single operations leave, in the words of the rule predicates of Safety: the ice-possible flag, the intent
check, the effective outdoor values, the lamps, and the records as fields. -/

namespace Sys2Proof.Machine
open Sys2Proof.Safety

/-! ### The ice-possible flag -/

theorem iceCause_iff (s : State) : iceCause s = true ↔ IceCause s := by
  unfold iceCause IceCause
  cases s.frg.state <;> simp
  cases channelValue s .tEha <;> simp [presentBelow]

/-- The cause depends on the frost state, the parameters and the channels alone. -/
theorem iceCause_congr {s t : State} (state : t.frg.state = s.frg.state) (params : t.params = s.params)
    (msc : t.msc = s.msc) : IceCause t ↔ IceCause s := by
  have : channelValue t .tEha = channelValue s .tEha := by unfold channelValue channel; rw [msc]
  simp [IceCause, state, params, this]

theorem iceCause_assessIce (s : State) : IceCause (assessIce s) ↔ IceCause s := by
  obtain ⟨_, _, _, _, e⟩ := assessIce_eq s
  exact iceCause_congr (by rw [e]) (by rw [e]) (by rw [e])

/-- An assessment depends on the flag and its hold before it, and on what the cause depends on after it. -/
theorem iceAssessed_congr {s s' t t' : State} (h : IceAssessed s t) (flag : s'.frg.icePossible = s.frg.icePossible)
    (hold : s'.frg.iceHold = s.frg.iceHold) (flag' : t'.frg.icePossible = t.frg.icePossible)
    (hold' : t'.frg.iceHold = t.frg.iceHold) (index' : t'.frg.iceIndex = t.frg.iceIndex)
    (state' : t'.frg.state = t.frg.state) (params' : t'.params = t.params) (msc' : t'.msc = t.msc) : IceAssessed s' t' := by
  have cause := iceCause_congr state' params' msc'
  constructor
  · intro x; rw [flag', hold']; exact h.holds (cause.1 x)
  · intro x y; rw [index']; exact h.rises (cause.1 x) (flag ▸ y)
  · intro x y; rw [flag', hold', hold]; exact h.ceases (fun z => x (cause.2 z)) (flag ▸ y)
  · intro x y; rw [flag']; exact h.clear (fun z => x (cause.2 z)) (flag ▸ y)

theorem assessIce_assessed (s : State) : IceAssessed s (assessIce s) := by
  have cause : IceCause (assessIce s) ↔ iceCause s = true := (iceCause_assessIce s).trans (iceCause_iff s).symm
  constructor
  · intro x
    unfold assessIce iceCauseHolds; rw [if_pos (cause.1 x)]; dsimp only
    cases h : s.frg.icePossible <;> simp [setIcePossible, setFilter, h]
  · intro x y
    unfold assessIce iceCauseHolds; rw [if_pos (cause.1 x)]; dsimp only
    simp [setIcePossible, setFilter, y]
  · intro x y
    unfold assessIce iceCauseCeased; rw [if_neg (fun z => x (cause.2 z))]; simp [y]
  · intro x y
    unfold assessIce iceCauseCeased; rw [if_neg (fun z => x (cause.2 z))]; simp [y]

/-- A second assessment of the same state changes nothing that the first has settled. -/
theorem assessIce_again {s t : State} (h : IceAssessed s t) : IceAssessed s (assessIce t) := by
  have cause := iceCause_assessIce t
  have k := assessIce_assessed t
  constructor
  · exact k.holds
  · intro x y
    have set := (h.holds (cause.1 x)).1
    have index := h.rises (cause.1 x) y
    unfold assessIce iceCauseHolds; rw [if_pos ((iceCause_iff t).2 (cause.1 x))]; dsimp only; simp [*]
  · intro x y
    have w := h.ceases (fun z => x (cause.2 z)) y
    have := k.ceases x w.1
    rw [w.2] at this; simpa using this
  · intro x y
    exact k.clear x (h.clear (fun z => x (cause.2 z)) y)

theorem moveTo_assessed (st : FrostState) (s : State) : IceAssessed s (moveTo st s) :=
  iceAssessed_congr (assessIce_assessed { s with frg := { s.frg with state := st, fullPower := none } })
    rfl rfl rfl rfl rfl rfl rfl rfl

/-! ### The intent check -/

theorem intentCheck_finds (s : State) : IntentCheckFinds s (intentCheck s) := by
  have thawing : anyAdj s (fun e => e.announcement == .thawU) = true ↔
      ∃ x ∈ s.ptb.entries, inSet s.params.adj x.position = true ∧ x.announcement = .thawU := by simp [anyAdj]
  have before : anyAdj s (fun e => e.announcement == .intent && entryPrecedes s e) = true ↔
      ∃ x ∈ s.ptb.entries, inSet s.params.adj x.position = true ∧ x.announcement = .intent ∧ entryPrecedes s x = true := by
    simp [anyAdj]
  unfold intentCheck
  constructor
  · intro h; simp [h]
  · intro h h2; simp [h, h2]
  · intro h h2 h3; simp [h, h2, thawing.2 h3]
  · intro h h2 h3 h4
    have no : ¬ anyAdj s (fun e => e.announcement == .thawU) = true := fun z => by
      obtain ⟨x, m, a, b⟩ := thawing.1 z; exact h3 x m a b
    simp [h, h2, no, before.2 h4]
  · intro h h2 h3
    have no : ¬ anyAdj s (fun e => e.announcement == .thawU) = true := fun z => by
      obtain ⟨x, m, a, b⟩ := thawing.1 z; exact (h3 x m a).1 b
    have none' : ¬ anyAdj s (fun e => e.announcement == .intent && entryPrecedes s e) = true := fun z => by
      obtain ⟨x, m, a, b, d⟩ := before.1 z; have := (h3 x m a).2 b; simp_all
    simp [h, h2, no, none']

/-! ### The effective outdoor values -/

theorem updateEffective_inEffect (s : State) : OutdoorInEffect (updateEffective s) := by
  have value : ∀ ch, channelValue (updateEffective s) ch = channelValue s ch := fun _ => rfl
  have plume : (updateEffective s).odr.plume = s.odr.plume := rfl
  have tRef : (updateEffective s).odr.tRef = s.odr.tRef := rfl
  have rhRef : (updateEffective s).odr.rhRef = s.odr.rhRef := rfl
  constructor
  · intro v a b; rw [plume] at a; rw [value] at b; simp [updateEffective, chooseOutdoor, a, b]
  · intro v a b; rw [plume, value] at a; rw [tRef] at b
    rcases a with a | a <;> simp [updateEffective, chooseOutdoor, a, b]
  · intro a b; rw [plume, value] at a; rw [tRef] at b
    rcases a with a | a <;> simp [updateEffective, chooseOutdoor, a, b, constantOutdoor]
  · intro v a b; rw [plume] at a; rw [value] at b; simp [updateEffective, chooseOutdoor, a, b]
  · intro v a b; rw [plume, value] at a; rw [rhRef] at b
    rcases a with a | a <;> simp [updateEffective, chooseOutdoor, a, b]
  · intro a b; rw [plume, value] at a; rw [rhRef] at b
    rcases a with a | a <;> simp [updateEffective, chooseOutdoor, a, b]

/-- The effective values depend on the resolver's record and the channels alone. -/
theorem inEffect_congr {s t : State} (h : OutdoorInEffect s) (odr : t.odr = s.odr) (msc : t.msc = s.msc) :
    OutdoorInEffect t := by
  have value : ∀ ch, channelValue t ch = channelValue s ch := fun _ => by unfold channelValue channel; rw [msc]
  obtain ⟨h1, h2, h3, h4, h5, h6⟩ := h
  constructor <;> rw [odr] <;> simp only [value] <;> assumption

/-! ### Records as fields -/

theorem natBits_eq_range (w n : Nat) : natBits w n = (List.range w).map fun k => n.testBit (w - 1 - k) := by
  induction w with
  | zero => rfl
  | succ w ih =>
    rw [natBits, ih, List.range_succ_eq_map, List.map_cons, List.map_map]
    congr 1
    apply List.map_congr_left
    intro k hk
    simp at hk
    simp
    congr 1
    omega

@[simp] theorem fieldBits_nil : fieldBits [] = [] := rfl

theorem fieldBits_cons (w n : Nat) (rest : List (Nat × Nat)) :
    fieldBits ((w, n) :: rest) = natBits w n ++ fieldBits rest := by
  rw [natBits_eq_range]; rfl

theorem fieldBits_append (a b : List (Nat × Nat)) : fieldBits (a ++ b) = fieldBits a ++ fieldBits b := by simp [fieldBits]

theorem flagBit_eq_natBits (b : Bool) : flagBit b = natBits 1 b.toNat := by cases b <;> rfl

theorem intBits_eq_natBits (w : Nat) (v : Int) : intBits w v = natBits w (twos w v) := by
  unfold intBits twos; rw [BitVec.toNat_ofInt]; congr 1

@[simp] theorem natBits_length (w n : Nat) : (natBits w n).length = w := by
  induction w with
  | zero => rfl
  | succ w ih => simp [natBits, ih]

theorem fieldBits_length (fields : List (Nat × Nat)) : (fieldBits fields).length = (fields.map (·.1)).sum := by
  induction fields with
  | nil => rfl
  | cons a rest ih => rw [fieldBits_cons, List.length_append, natBits_length, ih]; rfl

end Sys2Proof.Machine
end

