-- ==== Sys2Proof/Tests/Slice0.lean ====
section
/-! SUPPORT. The writer's own tests: ill-formed commands that the check refuses, figures worked in the manual, and for every
statement with hypotheses a concrete state that meets them, at the boundary values of its clauses. -/

namespace Sys2Proof.Tests
open Sys2Proof Sys2Proof.Machine Sys2Proof.Safety

/- One test at a time: tests elaborated side by side would each hold a thread while the kernel evaluates the others. -/
set_option Elab.async false

/-! ### Well-formed commands -/

theorem test_wf_payload_of_64_bytes : (Instr.stateFrame 3 (List.replicate 64 0)).wf = false := by decide
theorem test_wf_payload_of_63_bytes : (Instr.stateFrame 3 (List.replicate 63 0)).wf = true := by decide
theorem test_wf_query_of_another_space :
    (Instr.queryStatus 15 [7, 1, 0, 1]).wf = false ∧ (Instr.queryStatus 15 [7, 6, 0, 1]).wf = true := by decide
theorem test_wf_clear_of_another_item :
    (Instr.clearFanRetry 15 [7, 0]).wf = false ∧ (Instr.clearFanRetry 15 [7, 3]).wf = true := by decide
theorem test_wf_service_payload_too_long : (Instr.queryLine 15 (7 :: 5 :: List.replicate 62 0)).wf = false := by decide
theorem test_wf_form_error_of_a_used_kind : (Instr.formError 3 4).wf = false ∧ (Instr.formError 3 7).wf = true := by decide
theorem test_wf_violation_with_kind_but_no_sender :
    (Instr.stuffingViolation none (some 3)).wf = false ∧ (Instr.stuffingViolation (some 2) (some 3)).wf = true := by decide
theorem test_wf_tool_has_no_entry : (Instr.peerEntryExpiry 15).wf = false ∧ (Instr.peerEntryExpiry 14).wf = true := by decide
theorem test_no_word_spells_a_command : decodeTableWord 16 0 = none := rfl

/-! ### States -/

/-- A fan at a flow. -/
def fanAt (q speed duty : Nat) : FanRecord := ⟨q, q, speed, speed, duty, .settled, 20, 0, none, 0, false⟩

/-- A VALID channel with this value. -/
def good (v : Int) : ChannelRecord := ⟨.valid, some v, none, none, 0⟩

/-- The default parameters at position 7 of a row, with party walls to 6 and 8. -/
def row7 : Params := { defaultParams with position := some 7, adj := 0x140, ref := 0x360, plume := 0x100 }

/-- A configured part at position 7, in service, both fans settled at (250, 270), in line state ACTIVE. -/
def up : State :=
  { State.reset with
    params := row7
    msc := { channels := #v[good (-149), good 180, good 215, good 40, good 480, good 810, good 90, good 76]
             pulses := ⟨61, 62⟩, tachHigh := ⟨true, false⟩, timer := 0 }
    fdr := ⟨⟨fanAt 250 1700 520, fanAt 270 1837 540⟩, some 0⟩
    mst := { ModeStack.atPowerOn true true false with climateTimer := some 0, countdown := some 0 }
    frg := { FrostGuard.atPowerOn false with available := true, timer := some 0, evaluated := true, tdEta := some 111 }
    hev := { Humidity.atPowerOn with timer := some 0 }
    ptb := ⟨[], some 0⟩
    odr := ⟨false, none, none, none, some (-149), some .own, some 810, some .own⟩
    mpt := { MemoryPort.atPowerOn with
      state := .idle, settling := none, configResult := .ok, recordResult := .ok, locationKnown := true }
    lnc := { LineController.atPowerOn with state := .active, phase := .idle, statePeriod := some 0, lastSender := 6 } }

/-- `up` with the frost guard changed. -/
def frosty (g : FrostGuard → FrostGuard) : State := { up with frg := g up.frg }

/-- `up` in this frost state. -/
def inFrost (st : FrostState) : State := frosty fun g => { g with state := st }

/-- `up` with the line controller changed. -/
def lined (g : LineController → LineController) : State := { up with lnc := g up.lnc }

/-- `up` with one channel's record replaced. -/
def withChannel (ch : Channel) (r : ChannelRecord) : State := setChannel up ch r

/-- `up` with the mode stack changed. -/
def stacked (g : ModeStack → ModeStack) : State := { up with mst := g up.mst }

/-- `up` with one filter record changed. -/
def filtered (f : Fan) (g : FilterRecord → FilterRecord) : State := setFilter up f (g (filterRecord up f))

/-- `up` with one fan's record changed. -/
def fanned (f : Fan) (g : FanRecord → FanRecord) : State := setFan up f (g (fan up f))

/-- A part in its start load. -/
def booting (load : LoadPhase) : State :=
  { State.reset with mpt := { MemoryPort.atPowerOn with
      load := load, settling := some 0, busyPoll := some 480, busyTime := some 0 } }

/-- A save of `up`'s records at this byte. -/
def saveAt (place : Nat) (reading : Bool) : Save := ⟨recordBlock up.flm.records, place, reading⟩

/-- `up` with a save in flight. -/
def saving (place : Nat) (reading pending : Bool) : State :=
  { up with mpt := { up.mpt with
      state := .saving, save := some (saveAt place reading), savePoll := some 0, saveBusy := some 0
      savePending := pending } }

/-- A COMBUSTION entry. -/
def fire : ModeEntry := ⟨.combustion, 2, none, 1⟩

/-- A peer entry of a position. -/
def peer (p : Position) (a : Announcement) (u : Option Nat) : PeerEntry := ⟨p, a, u, none, none, false, false, none, 0⟩

/-- A STATE frame in the shifter, as position 7 sends it after position 6. -/
def sent : ShiftedFrame := ⟨⟨.state, List.replicate 8 0⟩, 0, 7⟩

/-- `up` sending that frame. -/
def sending (mark : Option Slot) : State :=
  lined fun m => { m with
    phase := .inFrame, frameTime := some 0, read := [false], shifter := some sent, mark := mark, stateSlot := some sent.frame }

/-- That sending with these levels of other stations, and these bit times in which the own dominant level does not pull. -/
def contended (others : List LineBit) (failing : List Bool) : State :=
  { sending (some .state) with lnc := { (sending (some .state)).lnc with others := others, failing := failing } }

/-- One dominant level of another station in the bit time of this place of the frame, after the start bit. -/
def dominantAt (place : Nat) : List LineBit := List.replicate (place - 1) true ++ [false]

/-- The line as that sender's comparison sees it. -/
def seenBySender (s : State) : List LineBit :=
  s.lnc.read ++ bitsWith (frameOnLine sent) ((frameOnLine sent).length - s.lnc.read.length) s.lnc

/-- A frame as its sender puts it on the line after position 6. -/
def framed (kind : FrameKind) (sender : Position) (payload : List Byte) : ShiftedFrame :=
  ⟨⟨kind, payload⟩, rotationRank sender 6, sender⟩

/-- A station that has just read a start bit, with these bits on the line after it. -/
def receivingBits (others : List LineBit) (s : State) : State :=
  { s with lnc := { s.lnc with phase := .inFrame, frameTime := some 0, read := [false], others := others, shifter := none } }

/-- A station at the start of this frame from another station. -/
def hearing (kind : FrameKind) (sender : Position) (payload : List Byte) (s : State) : State :=
  receivingBits (frameOnLine (framed kind sender payload)).tail s

/-- The bits after the start bit of a frame with these fields, its kind code among them, and this CRC. -/
def lineAfterStart (fields crc : List Bool) : List LineBit := (stuff (false :: fields ++ crc) ++ List.replicate 7 true).tail

/-- The fields of an empty frame of position 3 with rank 0 and this kind code. -/
def fieldsOf (code : Nat) : List Bool := true :: natBits 4 0 ++ natBits 4 3 ++ natBits 3 code ++ natBits 6 0

/-- Those fields with their CRC, or with its first bit turned over. -/
def crcBits (good : Bool) (code : Nat) : List Bool :=
  let crc := natBits 8 (crc8 (fieldsOf code)).toNat
  if good then crc else (!crc.headD false) :: crc.tail

/-- An END frame of position 3 whose end bits alternate. -/
def neverEnding : State :=
  receivingBits ((stuffedFrame (framed .endThaw 3 [])).tail ++ (List.replicate 500 [true, false]).flatten) up

/-! ### Figures worked in the manual -/

/-- The table after R3, each boundary. -/
theorem test_bands_of_raw_readings :
    sampleOf .tOda 15 = .bad .short ∧ sampleOf .tOda 16 = .bad .outOfRange ∧ sampleOf .tOda 292 = .bad .outOfRange ∧
    sampleOf .tOda 293 = .good (-400) ∧ sampleOf .tOda 3805 = .good 800 ∧ sampleOf .tOda 3806 = .bad .outOfRange ∧
    sampleOf .tOda 4079 = .bad .outOfRange ∧ sampleOf .tOda 4080 = .bad .opened ∧ sampleOf .tOda 1500 = .good 12 ∧
    sampleOf .rhEta 15 = .bad .opened ∧ sampleOf .rhEta 406 = .bad .outOfRange ∧ sampleOf .rhEta 407 = .good 0 ∧
    sampleOf .rhEta 3689 = .good 1000 ∧ sampleOf .rhEta 3690 = .bad .outOfRange ∧ sampleOf .rhEta 4080 = .bad .short ∧
    sampleOf .rhEta 2000 = .good 485 ∧ sampleOf .pExt 367 = .bad .outOfRange ∧ sampleOf .pExt 368 = .good 0 ∧
    sampleOf .pExt 380 = .good 0 ∧ sampleOf .pExt 3689 = .good 1000 := by decide

/-- A humidity boost during frost reduction (chapter 2). -/
theorem test_boost_during_reduction :
    let s : State := { inFrost .reduce with
      mst := { up.mst with above := [⟨.humBoost, 4, none, 1⟩] }
      fdr := ⟨⟨fanAt 300 0 500, fanAt 330 0 500⟩, some 0⟩ }
    stageS2 s (stageS1 s) = ⟨281, 480⟩ ∧ resolve s = ⟨281, 311⟩ ∧ stageS8 s (stageS7 s (resolve s)) = ⟨281, 311⟩ := by
  decide

/-- Speed targets (chapter 2). -/
theorem test_speed_targets :
    let s := setFilter (filtered .sup fun r => { r with dpRef := some 80, qRef := some 300, index := 20 }) .ext
      { FilterRecord.atPowerOn with dpRef := some 60, qRef := some 270 }
    speedTarget { s with flm := { s.flm with lx := 30 } } .sup 281 = 1966 ∧
    speedTarget { s with flm := { s.flm with lx := 30 } } .ext 311 = 2250 ∧
    speedTarget { s with flm := { s.flm with lx := 40 } } .ext 900 = 3900 ∧
    shortfallTest { s with flm := { s.flm with lx := 40 } } .ext 900 = true ∧ speedTarget up .sup 20 = 200 := by decide

/-- Duty corrections (R31). -/
theorem test_duty_corrections :
    nextDuty defaultParams 281 1966 1900 520 = 526 ∧ nextDuty defaultParams 281 1966 2030 520 = 514 ∧
    nextDuty defaultParams 281 1966 1976 520 = 520 ∧ nextDuty defaultParams 281 1966 0 0 = 150 := by decide

/-- The table of frost-load changes (chapter 4). -/
theorem test_frost_load_changes :
    dewpoint 215 480 = 111 ∧ dewpoint 200 150 = 40 ∧ dewpoint (-150) 850 = -180 ∧
    nextLoad defaultParams 270 (some (-18)) (some 111) 290 = 307 ∧
    nextLoad defaultParams 270 (some 30) (some 40) 290 = 270 ∧ nextLoad defaultParams 270 (some (-18)) none 290 = 292 ∧
    nextLoad defaultParams 270 (some (-250)) (some 111) 290 = 863 ∧
    nextLoad defaultParams 270 (some (-18)) (some 0) 290 = 292 ∧
    nextLoad defaultParams 0 (some (-18)) (some 111) 290 = 290 := by decide

/-- The table of normalised pressures (chapter 5). -/
theorem test_path_indices :
    pathIndex 90 80 300 250 = 39 ∧ pathIndex 180 80 300 450 = 0 ∧ pathIndex 76 80 300 300 = 0 ∧
    pathIndex 1000 5 1500 150 = 255 ∧ pathIndex 36 60 270 155 = 52 := by decide

/-- Ranks and arbitration fields of the four contenders (chapter 7). -/
theorem test_ranks :
    rotationRank 3 6 = 12 ∧ rotationRank 7 6 = 0 ∧ rotationRank 9 6 = 2 ∧ rotationRank 15 6 = 8 ∧
    arbitrationBits ⟨⟨.intent, [209]⟩, 2, 9⟩ = [false, false, false, true, false, true, false, false, true] := by decide

/-- An END frame's fields, its CRC and its bits on the line, written out bit by bit: position 7, rank 0 (R121, R123, R176). -/
theorem test_end_frame_bits :
    frameFields ⟨⟨.endThaw, []⟩, 0, 7⟩ =
      [false, false, false, false, false, false, true, true, true, false, true, false,
        false, false, false, false, false, false] ∧
    (stuffedFrame ⟨⟨.endThaw, []⟩, 0, 7⟩).take 14 =
      [false, false, false, false, false, true, false, false, true, true, true, false, true, false] := by decide

/-- A STATE payload read back from its bytes (11.5). -/
theorem test_state_payload :
    readState (stateBytes ⟨.thawU, some 180, some (-151), some 800, false, true, some 760⟩) =
      some ⟨.thawU, some 180, some (-151), some 800, false, true, some 760⟩ ∧
    stateBytes ⟨.thawU, some 180, some (-151), some 800, false, true, some 760⟩ =
      [0xBB, 180, 0xFF, 0x69, 0x03, 0x20, 0x02, 0xF8] ∧
    readState [0x80, 0, 0, 0, 0, 0, 0, 0] = none ∧ readState [0x01, 0, 0, 0, 0, 0, 0, 0] = none := by decide

/-- How receptions end (R126): a frame read whole, an unused kind, a CRC that does not match, six dominant bits, end bits
broken by a dominant one, and end bits that never come to seven. -/
theorem test_receptions_end :
    reception (hearing .endThaw 3 [] up).lnc = some (180, .correct .endThaw 3 []) ∧
    reception (receivingBits (lineAfterStart (fieldsOf 7) (crcBits true 7)) up).lnc = some (185, .formError 3 7) ∧
    reception (receivingBits (lineAfterStart (fieldsOf 2) (crcBits false 2)) up).lnc = some (180, .crcError 3 2) ∧
    reception (receivingBits (List.replicate 6 false) up).lnc = some (30, .violation none none) ∧
    reception (receivingBits ((frameOnLine (framed .endThaw 3 [])).tail.dropLast ++ [false]) up).lnc =
      some (215, .correct .endThaw 3 []) ∧
    reception neverEnding.lnc = some (5000, .timeout 3 2) := by decide +kernel

/-- A bit of the line is dominant while any station drives it, and a sender drives its own frame (R120). -/
theorem test_levels_on_the_line :
    lineBits 4 [true, false] [true, true, false] = [true, false, false, true] ∧ lineDrive up = true ∧
    lineDrive (sending none) = false ∧ lineDrive { sending none with powered := false } = true ∧
    (List.range 3).map (fun n => lineDrive (passTime (bitTimes n) (sending none))) = [false, true, false] := by
  decide +kernel

/-- IN_END begins after the stuffed part of a frame that another station sends (R122). -/
theorem test_end_field_of_a_received_frame :
    (passTime (bitTimes 28) (hearing .endThaw 3 [] up)).lnc.phase = .inFrame ∧
    (passTime (bitTimes 29) (hearing .endThaw 3 [] up)).lnc.phase = .inEnd := by decide +kernel

/-- A falling edge that bounces counts once, and a short low level not at all (R13). -/
theorem test_tachometer_bounce :
    let count := fun edges : List (Nat × Nat) =>
      (edges.foldl (fun m e => countPulse .sup e.1 e.2 m) { up.msc with pulses := ⟨0, 0⟩, tachHigh := ⟨false, false⟩ }).pulses
    count [(5000, 50), (50, 5000)] = ⟨1, 0⟩ ∧ count [(5000, 50), (5000, 5000)] = ⟨1, 0⟩ ∧
    count [(5000, 5000), (50, 5000)] = ⟨1, 0⟩ ∧ count [(5000, 100), (100, 100)] = ⟨2, 0⟩ := by decide

/-- The lengths of the reply records (11.6). -/
theorem test_record_lengths :
    (statusBits up).length = 479 ∧ (filterBits up .ext).length = 109 ∧ (peerBits up 0).length = 54 ∧
    (modeSlotBits up 0).length = 38 ∧ (modeSlotBits up 1).length = 38 ∧ (faultBits (faultAt up 0)).length = 73 ∧
    (lineRecordBits up).length = 76 := by decide +kernel

/-- Precedence (chapter 9). -/
theorem test_precedence :
    precedes 180 6 209 7 = false ∧ precedes 180 6 180 7 = true ∧ precedes 180 7 180 6 = false ∧
    precedes 255 14 12 2 = true := by decide

/-- The terrace references of the worked sequence (chapter 8). -/
theorem test_lower_medians :
    lowerMedian [-148, -151, -146] = some (-148) ∧ lowerMedian [820, 800] = some 800 ∧ lowerMedian [] = none := by decide

/-- The climate set through a cold night (chapter 3). -/
theorem test_climate_steps :
    climateStep .normal (-200) = .cold ∧ climateStep .cold 45 = .normal ∧ climateStep .normal (-95) = .normal ∧
    climateStep .normal (-104) = .cold ∧ climateStep .cold (-92) = .cold ∧ climateStep .cold (-88) = .normal ∧
    climateStep .normal 130 = .mild ∧ climateStep .mild 120 = .mild ∧ climateStep .mild 119 = .normal := by decide

/-! ### The memory image -/

/-- Four bytes of two signed values. -/
def pairBytes (q n : Nat) : List Byte := wordBytes q ++ wordBytes n

/-- A rule of the image. -/
def ruleBytes (left right : Byte) (offset : Int) (mask n : Byte) : List Byte :=
  [left, right] ++ signedWordBytes offset ++ [mask, n]

/-- The configuration block of a part at position 7 with the default values, in the order of R177. -/
def configBytes : List Byte :=
  [7] ++ wordBytes 0x140 ++ wordBytes 0x360 ++ wordBytes 0x100
    ++ [3, 700, 80, 1200, 30, 20, 160, 120, 200].flatMap wordBytes
    ++ defaultCalSupply.toList.flatMap (fun c => pairBytes c.q c.n)
    ++ defaultCalExtract.toList.flatMap (fun c => pairBytes c.q c.n)
    ++ [3900, 150, 24, 200, 4, 2, 2, 1, 30, 10].flatMap wordBytes
    ++ [defaultMild, defaultNormal, defaultCold, defaultCombustion].flatMap
        (fun set => set.toList.flatMap fun c => pairBytes c.supply c.extract)
    ++ [5, 20, 300, 4000, 20, 48, 8, 50, 3, 15, 150, 64, 192, 4380].flatMap wordBytes
    ++ wordBytes 7 ++ wordBytes 21248
    ++ ruleBytes 0 5 700 1 3 ++ ruleBytes 1 5 50 3 2 ++ ruleBytes 0 5 300 4 30 ++ ruleBytes 3 2 (-20) 3 3

/-- The whole image: header, configuration with its sum, two UNREFERENCED records with theirs. -/
def image : List Byte :=
  wordBytes 0xE316 ++ wordBytes 253 ++ configBytes ++ [0 - byteSum configBytes]
    ++ recordBlock ⟨FilterRecord.atPowerOn, FilterRecord.atPowerOn⟩

/-- The image in a serial memory. -/
def imageMemory : List Host.Cell := ((List.range 253).zip image).filter fun c => c.2 != erasedByte

theorem test_image_is_read : image.length = 253 ∧ checkConfig (some image) = .ok ∧ imageParams image = row7 ∧
    checkRecords row7 true image = (.ok, ⟨FilterRecord.atPowerOn, FilterRecord.atPowerOn⟩) := by decide +kernel

theorem test_image_in_memory : readImage imageMemory = image ∧ Memory.wf imageMemory = true := by decide +kernel

theorem test_image_faults_by_step :
    checkConfig none = .noMemory ∧ checkConfig (some (image.set 3 252)) = .header ∧
    checkConfig (some (image.set 4 6)) = .configSum ∧
    checkConfig (some ((image.set 4 15).set 225 (image.getD 225 0 - 8))) = .configRange ∧
    recordSumGood (image.set 252 1) = false := by decide +kernel

/-! ### One step of some commands, on figures of the worked sequences -/

/-- The state after a command, or the state itself where none follows. -/
def after (i : Instr) (s : State) : State :=
  match exec i s with
  | .next t => t
  | .fault _ => s
  | .refused _ => s

/-- The start-up ramp (chapter 2): the first evaluation of two fans at rest. -/
theorem test_first_ramp_step :
    let t := after .fanEvaluation { up with fdr := ⟨⟨FanRecord.atPowerOn, FanRecord.atPowerOn⟩, some 0⟩ }
    (fan t .sup).target = 250 ∧ (fan t .ext).target = 270 ∧ commandedPair t = ⟨20, 20⟩ ∧ (fan t .sup).duty = 150 ∧
    (fan t .ext).state = .running ∧ (filterRecord t .sup).remainder = 20 := by decide +kernel

/-- The fifteenth evaluation of a stall (chapter 2): FAULT, and the supply brought down to lim. -/
theorem test_stall_at_an_evaluation :
    let t := after .fanEvaluation
      (fanned .ext fun r => { r with measured := 0, duty := 1000, stall := 14, state := .running })
    (fan t .ext).state = .fault ∧ (fan t .ext).retryPause = some (seconds 60) ∧ commandedPair t = ⟨30, 0⟩ ∧
    (fan t .sup).state = .running ∧ (faultRecord t (.fan .ext)).count = 1 := by decide +kernel

/-- Combustion with a low supply level (chapter 2): (156, 186) comes down to (156, 156), the intent is denied. -/
theorem test_stove_is_lit_in_intent :
    let s : State := { inFrost .intent with
      fdr := ⟨⟨fanAt 156 1300 500, fanAt 186 1400 500⟩, some 0⟩
      mst := { up.mst with combustion := ⟨true, false, 0, false⟩ } }
    let t := after .combustionDebounceExpiry s
    commandedPair t = ⟨156, 156⟩ ∧ (fan t .ext).state = .running ∧ (fan t .sup).state = .settled ∧
    t.frg.state = .thawB ∧ t.frg.denial = some .combustion ∧ t.frg.power = 100 ∧ combustionFlag t = true := by
  decide +kernel

/-- The end of an unbalanced thaw (chapter 2): (0, 270) comes down to (0, 30), END is staged. -/
theorem test_unbalanced_thaw_ends :
    let s : State := { frosty fun g => { g with state := .thawU, thaw := some 0, load := 900, urgency := some 209 } with
      fdr := ⟨⟨FanRecord.atPowerOn, fanAt 270 0 500⟩, some 0⟩ }
    let t := after .thawTimerExpiry s
    commandedPair t = ⟨0, 30⟩ ∧ (fan t .ext).state = .running ∧ t.frg.state = .recover ∧ t.frg.load = 0 ∧
    t.lnc.urgent = some ⟨.endThaw, []⟩ ∧ t.frg.urgency = none := by decide +kernel

/-- The 18th build-up of the cold night (chapter 4): 289 becomes 306, and WATCH is left for PREHEAT. -/
theorem test_frost_load_reaches_l1 :
    let s := setChannel (frosty fun g => { g with state := .watch, load := 289 }) .tEha (good (-18))
    (after .frostEvaluation s).frg.load = 306 ∧ (after .frostEvaluation s).frg.state = .preheat ∧
    (after .frostEvaluation s).frg.icePossible = true := by decide +kernel

/-- Entry to INTENT with the figures of the cold night (chapter 4): urgency 209, the INTENT frame staged. -/
theorem test_ice_index_leads_to_intent :
    let s := setChannel (frosty fun g => { g with state := .reduce, load := 2570, power := 100, iceIndex := 48 })
      .tEha (good (-6))
    let t := after .frostEvaluation s
    t.frg.load = 2576 ∧ t.frg.state = .intent ∧ t.frg.urgency = some 209 ∧ t.frg.power = 100 ∧
    t.lnc.urgent = some ⟨.intent, [209]⟩ := by decide +kernel

/-- Two houses with equal urgency (chapter 9): the INTENT of position 6 denies position 7. -/
theorem test_intent_of_the_lower_position_denies :
    let s := frosty fun g => { g with state := .intent, holdoff := some 0, urgency := some 180 }
    (after (.intentFrame 6 [180]) (hearing .intent 6 [180] s)).frg.state = .thawB ∧
    (after (.intentFrame 6 [180]) (hearing .intent 6 [180] s)).frg.denial = some .peerPrecedence ∧
    (after (.intentFrame 8 [180]) (hearing .intent 8 [180] s)).frg.state = .intent := by decide +kernel

/-- A capture at an evaluation (chapter 5). -/
theorem test_reference_is_captured :
    let s := filtered .sup fun r => { r with capture := some 59, previousFlow := some 250 }
    let t := after .fanEvaluation s
    (filterRecord t .sup).dpRef = some 90 ∧ (filterRecord t .sup).qRef = some 250 ∧
    (filterRecord t .sup).state = .clean ∧ t.mpt.state = .saving ∧ t.mpt.sent = [[0x06], [0x02, 226, 1]] := by
  decide +kernel

/-- A BOOST press and the last tick of a run-on with the dry request asserted (chapter 3). -/
theorem test_stack_changes :
    (after .boostDebounceExpiry (stacked fun m => { m with boost := ⟨false, true, 0, false⟩ })).mst.above =
      [⟨.button, 4, some 1800, 1⟩] ∧
    (after .countdownTick (stacked fun m =>
      { m with above := [⟨.humBoost, 4, some 1, 2⟩], counter := 4, dryCopy := true })).mst.above =
      [⟨.humDry, 1, none, 4⟩] := by decide +kernel

/-- Three failures and QUIET, and a frame's success (chapter 7). -/
theorem test_line_outcomes :
    let s : State := { contended (dominantAt 22) [] with lnc := { (contended (dominantAt 22) []).lnc with failures := 2 } }
    (after .bitError s).lnc.state = .quiet ∧ (after .bitError s).lnc.stateSlot = some sent.frame ∧
    (after .bitError s).lnc.capture = some ⟨.bitError, some 7, some .state, 0⟩ ∧
    (after .frameSuccess s).lnc = s.lnc ∧
    (after .frameSuccess (sending (some .state))).lnc.stateSlot = none ∧
    (after .frameSuccess (sending (some .state))).lnc.lastSender = 7 := by decide +kernel

/-- What a sender's comparison finds (R125, R131, log 33): its own frame alone, dominant at a recessive bit of the arbitration
field, at the stuff bit within it and in the payload, and a dominant level of its own that does not pull. -/
theorem test_comparisons :
    (frameOnLine sent).take 11 = [false, true, false, false, false, false, false, true, true, true, true] ∧
    comparison (sending none).lnc = some (bitTimes (frameOnLine sent).length, .success) ∧
    comparison (contended (dominantAt 1) []).lnc = some (10, .lost 0) ∧
    comparison (contended (dominantAt 8) []).lnc = some (45, .lost 6) ∧
    comparison (contended (dominantAt 7) []).lnc = some (40, .bitError) ∧
    comparison (contended (dominantAt 22) []).lnc = some (115, .bitError) ∧
    comparison (contended [] [false, true]).lnc = some (15, .bitError) := by decide +kernel

/-- A station that loses to an INTENT frame of position 9 releases the line at once and reads that frame whole (R125). -/
theorem test_the_loser_reads_the_winner :
    let s := contended (frameOnLine (framed .intent 9 [209])).tail []
    comparison s.lnc = some (10, .lost 0) ∧ lineDrive (passTime 5 s) = true ∧ lineDrive (passTime 10 s) = true ∧
    (reception (after (.contentionLost 0) s).lnc).map Prod.snd = some (.correct .intent 9 [209]) ∧
    (after (.contentionLost 1) s).lnc = s.lnc := by decide +kernel

/-- STUCK at the 33rd dominant sample point in a row (R128): in WAITING, where six of them came with a stuffing violation, and
in the end field; it is declared once. -/
theorem test_stuck_lines :
    let form := after (.stuffingViolation none none) (receivingBits (List.replicate 6 false) up)
    let almost := { form with lnc := { form.lnc with dominantRun := 32 } }
    let now := after .dominantSampleInWaiting almost
    let ending := receivingBits
      ((stuffedFrame (framed .endThaw 3 [])).tail ++ [true, true] ++ List.replicate 40 false) up
    form.lnc.dominantRun = 6 ∧ (after .dominantSampleInWaiting form).lnc.dominantRun = 7 ∧
    (after .stuck almost).lnc = almost.lnc ∧ (after .stuck now).lnc.stuckDeclared = true ∧
    (after .stuck (after .stuck now)).lnc = (after .stuck now).lnc ∧
    reception ending.lnc = some (bitTimes ((stuffedFrame (framed .endThaw 3 [])).length + 35), .stuck) ∧
    (after .stuck ending).lnc.phase = .waiting ∧ (after .stuck ending).lnc.dominantRun = 33 ∧
    (after .stuck ending).lnc.capture.map LineCapture.fault = some .stuck := by decide +kernel

/-- Replies out of range and of no records (R172). -/
theorem test_replies :
    (after (.queryPeers 15 [7, 2, 14, 1]) (hearing .query 15 [7, 2, 14, 1] up)).lnc.reply = some ⟨.reply, [0x50, 14]⟩ ∧
    (after (.queryModes 15 [7, 3, 5, 0]) (hearing .query 15 [7, 3, 5, 0] up)).lnc.reply = some ⟨.reply, [0x60, 5]⟩ ∧
    (after (.queryFaults 15 [7, 4, 16, 1])
      (hearing .query 15 [7, 4, 16, 1] (setFault up .lineErrors ⟨true, 3, 258, 1⟩))).lnc.reply =
      some ⟨.reply, [0x81, 16, 0x01, 0x80, 0x00, 0x00, 0x81, 0x00, 0x00, 0x00, 0x00, 0x80]⟩ ∧
    (after (.queryLine 15 [7, 5, 0]) (hearing .query 15 [7, 5, 0] up)).lnc.reply = none ∧
    (after (.queryLine 15 [7, 9, 0, 1]) (hearing .query 15 [7, 9, 0, 1] up)).lnc.lastSender = 15 := by decide +kernel

/-! ### The hypotheses of the statements are met

One theorem per statement of Certificates/Slice0/Obligations.lean that has hypotheses: each line is a clause's premises on a
concrete state. -/

theorem test_meets_step_and_idle :
    ({ up with pending := [.fanEvaluation, .powerLoss] }).pending = .fanEvaluation :: [.powerLoss] ∧ up.pending = [] := by
  decide

theorem test_meets_supply :
    Memory.wf up.memory = true ∧ up.mpt.save = none ∧ Memory.wf (saving 0 false false).memory = true ∧
    (saving 0 false false).mpt.save = some (saveAt 0 false) ∧ (saving 26 true false).mpt.save = some (saveAt 26 true) ∧
    (225 : Nat) ≠ 226 + (saveAt 0 false).place ∧ (253 : Nat) ≠ 226 + (saveAt 26 true).place := by decide

theorem test_meets_start_load_looks :
    (∀ load, (booting load).powered = true ∧ (booting load).mpt.state = .loading) ∧
    (booting .settling).mpt.load = .settling ∧ (booting .settling).mpt.settling = some 0 ∧
    (booting .busy).mpt.load = .busy ∧ (booting .busy).mpt.busyPoll = some 480 ∧ (booting .busy).mpt.busyTime = some 0 ∧
    ((0x01 : Byte) ≠ 0xFF ∧ (0x01 : Byte).getLsbD 0 = true) ∧ ((0xFE : Byte) ≠ 0xFF ∧ (0xFE : Byte).getLsbD 0 = false) :=
  ⟨fun load => by cases load <;> decide, by decide⟩

theorem test_meets_start_load_completion :
    (booting .reading).mpt.load = .reading ∧ checkConfig (some (readImage State.reset.memory)) = .header ∧
    ({ booting .reading with memory := imageMemory }).mpt.load = .reading ∧
    checkConfig (some (readImage imageMemory)) = .ok ∧
    (recordsInUse (some (readImage State.reset.memory))).1 = .notRead ∧
    (recordsInUse (some image)).1 = .ok ∧ (booting .reading).mst.above = [] ∧
    (∀ f, (fan (booting .reading) f).state = .off ∧ (fan (booting .reading) f).commanded = 0) := by
  refine ⟨?_, ?_, ?_, ?_, ?_, ?_, ?_, fun f => by cases f <;> decide⟩ <;> decide +kernel

/-- The bytes of an image with a BLOCKED record, with a wrong sum, and with a record out of range. -/
theorem test_meets_image_checks :
    let blocked := [5, 0, 80, 1, 44, 200] ++ List.replicate 7 0
    let other := (image.set 226 7).set 252 249
    (imageWord image 0 = 0xE316 ∧ imageWord image 2 = 253 ∧ byteSum ((image.drop 4).take 222) = 0) ∧
    imageWord (image.set 0 0) 0 ≠ 0xE316 ∧ imageWord (image.set 3 0) 2 ≠ 253 ∧
    byteSum (((image.set 4 6).drop 4).take 222) ≠ 0 ∧ byteSum ((image.drop 226).take 27) = 0 ∧
    byteSum (((image.set 252 1).drop 226).take 27) ≠ 0 ∧
    (byteSum ((other.drop 226).take 27) = 0 ∧ (goodRecord row7 other 226).isSome = false) ∧
    ((goodRecord row7 (image.take 226 ++ blocked) 226).map (·.state)) = some .blocked := by decide +kernel

/-- A start load through which AWAY and COMBUSTION stand closed or open. -/
def bootingWith (awayHigh combustionHigh : Bool) : State :=
  { booting .reading with mst := { ModeStack.atPowerOn true awayHigh combustionHigh with
      away := ⟨awayHigh, awayHigh, 0, false⟩, combustion := ⟨combustionHigh, combustionHigh, 0, false⟩ } }

theorem test_meets_contacts_at_start : ∀ a c, (bootingWith a c).mst.above = [] ∧ (bootingWith a c).mpt.load = .reading ∧
    (bootingWith a c).mst.away.debouncedHigh = a ∧ (bootingWith a c).mst.combustion.debouncedHigh = c := by decide

theorem test_meets_samples :
    up.powered = true ∧ (channel up .tOda).state = .valid ∧ sampleOf .tOda 1500 = .good 12 ∧
    sampleOf .tOda 4080 = .bad .opened ∧
    (channel (withChannel .tOda ⟨.held, some 5, some .short, some 0, 0⟩) .tOda).state = .held ∧
    (channel (withChannel .tOda ⟨.fault, none, none, none, 1⟩) .tOda).state = .fault ∧
    (channel (withChannel .tOda ⟨.fault, none, none, none, 1⟩) .tOda).goodRun < 2 ∧
    (channel (withChannel .tOda ⟨.fault, none, none, none, 2⟩) .tOda).goodRun = 2 := by decide

theorem test_meets_hold_expiry :
    let s := withChannel .tEha ⟨.held, some 5, some .short, some 1440000, 0⟩
    s.powered = true ∧ (channel s .tEha).state = .held ∧ (channel s .tEha).hold = some 1440000 ∧
    s.frg.evaluated = true ∧ s.frg.state ≠ .thawU ∧ s.frg.state ≠ .thawB ∧ s.frg.state ≠ .fallback ∧
    (∀ st ∈ [FrostState.thawU, .thawB, .fallback], (inFrost st).frg.state = st) ∧
    (channel (withChannel .tOda ⟨.held, some 5, none, some 0, 0⟩) .tOda).hold = some 0 ∧ inService s = true := by decide

/-- What a channel's record hands on: T_EHA's third good sample in FALLBACK and outside it, one that leaves it in FAULT, and a
change of T_ODA's record. -/
theorem test_meets_records_handed_on :
    let back := fun st n => setChannel (inFrost st) .tEha ⟨.fault, none, none, none, n⟩
    sampleOf .tEha 1500 = .good 12 ∧ (back .fallback 2).frg.state = .fallback ∧ (back .watch 2).frg.state ≠ .fallback ∧
    (channel (back .fallback 2) .tEha).goodRun = 2 ∧
    (channel (after (.conversionComplete .tEha 1500) (back .fallback 1)) .tEha).state = .fault ∧
    (channel (after (.conversionComplete .tOda 1500) up) .tOda).value ≠ (channel up .tOda).value ∧
    (channel (after (.conversionComplete .rhOda 15) up) .rhOda).state ≠ (channel up .rhOda).state := by decide +kernel

theorem test_meets_tachometer :
    up.powered = true ∧ (100 ≤ 100 ∧ 99 < 100) ∧ up.msc.tachHigh.get .sup = true ∧ up.msc.tachHigh.get .ext = false := by
  decide

theorem test_meets_stage_two :
    (∀ st, (inFrost st).frg.state = st) ∧ (inFrost .fallback).frg.timedThaw = none ∧
    (frosty fun g => { g with state := .fallback, timedThaw := some 0 }).frg.timedThaw ≠ none :=
  ⟨fun st => by cases st <;> rfl, by decide⟩

theorem test_meets_stages_three_to_five :
    (fan (fanned .sup toFault) .sup).state = .fault ∧
    (filterRecord (filtered .sup fun r => { r with state := .blocked }) .sup).state = .blocked ∧
    ((filterRecord up .sup).state ≠ .blocked ∧ (filterRecord up .ext).state ≠ .blocked) ∧
    flowOf ⟨0, 79⟩ .sup = 0 ∧ (flowOf ⟨0, 79⟩ .ext ≠ 0 ∧ flowOf ⟨0, 79⟩ .ext < up.params.qminRun) ∧
    (up.params.qminRun ≤ flowOf ⟨80, 1201⟩ .ext ∧ up.params.qmax < flowOf ⟨80, 1201⟩ .ext) ∧
    (up.params.qminRun ≤ flowOf ⟨80, 1200⟩ .sup ∧ flowOf ⟨80, 1200⟩ .ext ≤ up.params.qmax) := by decide

theorem test_meets_balance_stages :
    let burning := stacked fun m => { m with above := [fire] }
    (inFrost .thawU).frg.state = .thawU ∧ up.frg.state ≠ .thawU ∧ burning.frg.state ≠ .thawU ∧
    combustionFlag burning = true ∧ combustionFlag up = false ∧ 250 + up.params.lim < 281 ∧
    (280 ≤ 250 + up.params.lim ∧ 250 ≤ 280 + up.params.lim) ∧
    (stageS6 burning ⟨0, 80⟩ = ⟨0, 0⟩ ∧ stageS6 burning ⟨300, 200⟩ = ⟨300, 200⟩ ∧ stageS6 burning ⟨200, 201⟩ = ⟨200, 200⟩ ∧
      stageS8 burning ⟨300, 200⟩ = ⟨230, 200⟩) := by decide

theorem test_meets_slew :
    flowOf ⟨250, 290⟩ .sup ≤ (fan up .sup).commanded ∧ (fan up .ext).commanded < flowOf ⟨250, 290⟩ .ext ∧
    (fan up .ext).commanded + up.params.slew ≤ flowOf ⟨250, 290⟩ .ext ∧
    ¬ (fan up .ext).commanded + up.params.slew ≤ flowOf ⟨250, 289⟩ .ext := by decide

theorem test_meets_fan_evaluation :
    let stuck := fanned .ext fun r => { r with measured := 199, duty := 950, stall := 14, state := .running }
    inService up = true ∧ up.fdr.timer = some 0 ∧ (fan up .sup).duty ≠ 0 ∧
    (fan (fanned .sup fun r => { r with duty := 0 }) .sup).duty = 0 ∧
    (fan (after .fanEvaluation (fanned .ext toFault)) .sup).commanded = 0 ∧
    (∀ f, ¬ ((fan up f).measured < up.params.nStall)) ∧
    (fan stuck .ext).measured < stuck.params.nStall ∧ 2 ^ stuck.params.stallK - 1 ≤ (fan stuck .ext).stall + 1 ∧
    (fan stuck .ext).settle + 1 = 21 ∧ stuck.frg.state ≠ .thawU ∧
    ((fan up .sup).state = .settled ∧ (fan (fanned .sup fun r => { r with settle := 18 }) .sup).settle + 1 < 20) ∧
    StallsOut up.params (fan stuck .ext) 270 1000 := by
  refine ⟨by decide, by decide, by decide, by decide, by decide +kernel, fun f => by cases f <;> decide, by decide,
    by decide, by decide, by decide, by decide, by unfold StallsOut; decide⟩

/-- A fan that keeps its target, one that has left it, one that stops and one that starts. -/
theorem test_meets_fan_states :
    let met := { fanAt 250 1700 520 with state := .running, settle := 19 }
    (met.commanded = met.target ∧ met.measured ≤ met.speedTarget + met.speedTarget / 16 ∧
      met.speedTarget ≤ met.measured + met.speedTarget / 16) ∧
    ¬ ((fanAt 250 1700 520).speedTarget ≤ 1593 + (fanAt 250 1700 520).speedTarget / 16) ∧
    (FanRecord.atPowerOn.state = .off ∧ (toFault (fanAt 250 1700 520)).state = .fault) := by decide

/-- The default calibration tables are in order, and flows below, between and above their points have a base speed. -/
theorem test_meets_speeds :
    CalibrationOrdered defaultCalSupply ∧ CalibrationOrdered defaultCalExtract ∧
    (∃ n, BaseSpeedIs defaultCalSupply 20 n) ∧ (∃ n, BaseSpeedIs defaultCalSupply 281 n) ∧
    (∃ n, BaseSpeedIs defaultCalSupply 1500 n) := by
  refine ⟨by unfold CalibrationOrdered; decide, by unfold CalibrationOrdered; decide, ⟨200, ⟨?_, ?_, ?_⟩⟩,
    ⟨baseSpeed defaultCalSupply 281, ⟨?_, ?_, ?_⟩⟩, ⟨defaultCalSupply[(4 : Fin 5)].n, ⟨?_, ?_, ?_⟩⟩⟩ <;> decide

theorem test_meets_fan_timers :
    inService up = true ∧ (fan (fanned .sup fun r => { r with state := .running }) .sup).state = .running ∧
    20 ≤ (fan (fanned .sup fun r => { r with state := .running }) .sup).settle ∧
    2 ^ up.params.stallK - 1 = 15 ∧ (fan (fanned .ext fun r => { r with stall := 15 }) .ext).state = .settled ∧
    up.frg.state ≠ .thawU ∧ (fan (fanned .ext toFault) .ext).retryPause = some (seconds 60) ∧
    (fan (fanned .ext toFault) .ext).state = .fault := by decide

theorem test_meets_boost_and_away :
    let timed := fun o r => stacked fun m => { m with above := [⟨o, 4, some r, 1⟩] }
    let under := stacked fun m => { m with above := [fire, ⟨.button, 4, some 5, 1⟩] }
    inService up = true ∧ (stacked fun m => { m with boost := ⟨false, true, 2400, false⟩ }).mst.boost =
      ⟨false, true, 2400, false⟩ ∧
    (hasEntry up.mst .button = false ∧ (topEntry up.mst).origin ≠ .button) ∧
    (hasEntry under.mst .button = true ∧ (topEntry under.mst).origin ≠ .button) ∧
    (topEntry (timed .button 1).mst).origin = .button ∧ hasEntry up.mst .away = false ∧
    (stacked fun m => { m with away := ⟨true, false, 0, false⟩ }).mst.away = ⟨true, false, 0, false⟩ := by decide

theorem test_meets_placement :
    ordered [fire, ⟨.button, 4, some 5, 2⟩, ⟨.away, 1, none, 3⟩] ∧
    place ⟨.humDry, 1, none, 4⟩ [fire, ⟨.button, 4, some 5, 2⟩, ⟨.away, 1, none, 3⟩] =
      [fire, ⟨.button, 4, some 5, 2⟩, ⟨.humDry, 1, none, 4⟩, ⟨.away, 1, none, 3⟩] :=
  ⟨⟨by decide, by decide, by decide, trivial⟩, by decide⟩

theorem test_meets_combustion :
    inService up = true ∧ hasEntry up.mst .combustion = false ∧
    (stacked fun m => { m with combustion := ⟨true, false, 0, false⟩ }).mst.combustion = ⟨true, false, 0, false⟩ ∧
    (stacked fun m => { m with combustion := ⟨false, true, 0, false⟩ }).mst.combustion = ⟨false, true, 0, false⟩ ∧
    (inFrost .intent).frg.state = .intent ∧ hasEntry (inFrost .intent).mst .combustion = false ∧
    (inFrost .thawU).frg.state = .thawU := by decide

theorem test_meets_remaining_time :
    let boost := fun o r dry => stacked fun m => { m with above := [⟨o, 4, r, 1⟩], dryCopy := dry }
    (∀ o r dry, (boost o r dry).mst.countdown = some 0 ∧ (boost o r dry).mst.above = ⟨o, 4, r, 1⟩ :: [] ∧
      inService (boost o r dry) = true) ∧
    (boost .humBoost (some 1) true).mst.dryCopy = true ∧ hasEntry (boost .humBoost (some 1) true).mst .humDry = false ∧
    (boost .humBoost (some 1) false).mst.dryCopy = false ∧ (some 2 : Option Nat) = some (0 + 2) :=
  ⟨fun _ _ _ => ⟨rfl, rfl, rfl⟩, by decide⟩

theorem test_meets_climate :
    let out := fun c v => { stacked fun m => { m with climate := c } with odr := { up.odr with tOut := some v } }
    (∀ c v, inService (out c v) = true ∧ (out c v).mst.climateTimer = some 0 ∧ (out c v).odr.tOut = some v ∧
      (out c v).mst.climate = c) ∧
    ((-101 : Int) < -100) ∧ ((130 : Int) ≤ 130) ∧ ((-100 : Int) ≤ -100 ∧ (129 : Int) < 130) ∧ ((-90 : Int) ≤ -90) ∧
    ((-91 : Int) < -90) ∧ ((119 : Int) < 120) ∧ ((120 : Int) ≤ 120) :=
  ⟨fun _ _ => ⟨rfl, rfl, rfl, rfl⟩, by decide⟩

theorem test_meets_frost_evaluation :
    let dry := withChannel .rhEta ⟨.fault, none, none, none, 0⟩
    inService up = true ∧ up.frg.timer = some 0 ∧ channelValue up .tEta = some 215 ∧ channelValue up .rhEta = some 480 ∧
    channelValue dry .rhEta = none ∧ (up.frg.state ≠ .thawU ∧ up.frg.state ≠ .thawB ∧ up.frg.state ≠ .fallback) := by decide

theorem test_meets_load_and_power :
    defaultParams.onset ≤ (5 : Int) ∧ (4 : Int) < defaultParams.onset ∧
    (2 : Int) = max 1 (min 32 (((44 : Int) - 4).tdiv 20)) ∧ (32 : Int) = max 1 (min 32 (((800 : Int) - 4).tdiv 20)) ∧
    (frosty fun g => { g with available := false }).frg.available = false ∧
    (∀ st, (inFrost st).frg.available = true ∧ (inFrost st).frg.state = st) ∧ up.odr.tOut = some (-149) ∧
    channelValue (inFrost .preheat) .tEha = some 40 :=
  ⟨by decide, by decide, by decide, by decide, by decide, fun st => by cases st <;> decide, by decide, by decide⟩

theorem test_meets_state_tests :
    let at' := fun st load ice => frosty fun g => { g with state := st, load := load, iceIndex := ice }
    let mild := fun v => { up with odr := { up.odr with tOut := some v } }
    let blind := fun g => { setChannel up .tEha ⟨.fault, none, none, none, 0⟩ with frg := g }
    ((channel (blind up.frg) .tEha).state = .fault ∧ up.frg.state = .clear) ∧
    ((channel up .tEha).state ≠ .fault ∧ channelValue up .tEha = some 40 ∧ up.odr.tOut = some (-149)) ∧
    (-149 : Int) < up.params.tWatchOut ∧ (up.params.tWatchOut ≤ 20 ∧ up.params.onset + 20 ≤ (40 : Int)) ∧
    (mild 20).odr.tOut = some 20 ∧ up.params.l1 ≤ (at' .watch 300 0).frg.load ∧
    ((at' .watch 0 0).frg.load < up.params.l1 ∧ (at' .watch 0 0).frg.load = 0 ∧ up.params.tWatchOut + 10 ≤ (30 : Int)) ∧
    ((at' .preheat 0 0).frg.load = 0 ∧ (at' .preheat 0 0).frg.power = 0) ∧
    up.params.l3 ≤ (at' .reduce 4000 0).frg.load ∧ up.params.iThaw ≤ (at' .reduce 0 48).frg.iceIndex ∧
    ((at' .reduce 149 47).frg.load < up.params.l3 ∧ (at' .reduce 149 47).frg.iceIndex < up.params.iThaw ∧
      (at' .reduce 149 47).frg.load < up.params.l1 / 2) ∧
    ((minutes up.params.tThawMin ≤ minutes 3) ∧ up.params.tThawEnd ≤ (50 : Int) ∧ 8 ≤ up.params.iClear ∧
      0 < (fan up .ext).commanded) ∧
    ((blind { up.frg with state := .fallback, fallbackCycle := some (minutes 40) }).frg.fallbackCycle =
      some (minutes 40) ∧ (-101 : Int) < -100 ∧ minutes 40 ≤ minutes 40) ∧
    ((-31 : Int) < -30 ∧ minutes 90 ≤ minutes 90) ∧ ((-30 : Int) ≤ -30) := by decide

/-- The clauses of the state tests in which no transition is made, and PREHEAT's full-power time. -/
theorem test_meets_states_that_stay :
    let at' := fun st load ice => frosty fun g => { g with state := st, load := load, iceIndex := ice }
    let hot := fun power load n => frosty fun g =>
      { g with state := .preheat, power := power, load := load, fullPower := n }
    let thawing := fun e => frosty fun g => { g with state := .thawB, thaw := some e }
    let lost := fun st => setChannel (inFrost st) .tEha ⟨.fault, none, none, none, 0⟩
    ((at' .watch 299 0).frg.load < up.params.l1 ∧ (at' .watch 299 0).frg.load ≠ 0) ∧
    ((hot 0 1 none).frg.load ≠ 0 ∧ (hot 99 300 none).frg.power ≠ 100 ∧ (hot 100 299 none).frg.load < up.params.l1) ∧
    ((hot 100 300 none).frg.power = 100 ∧ up.params.l1 ≤ (hot 100 300 none).frg.load ∧
      (hot 100 300 none).frg.fullPower = none) ∧
    ((hot 100 300 (some 589)).frg.fullPower = some 589 ∧ 589 + 10 < 600 ∧ 600 ≤ 590 + 10) ∧
    ((at' .reduce 150 47).frg.load < up.params.l3 ∧ (at' .reduce 150 47).frg.iceIndex < up.params.iThaw ∧
      up.params.l1 / 2 ≤ (at' .reduce 150 47).frg.load) ∧
    ((thawing 0).frg.thaw = some 0 ∧ 0 < minutes up.params.tThawMin ∧ (49 : Int) < up.params.tThawEnd ∧
      up.params.iClear < 9) ∧
    ((inFrost .fallback).frg.state = .fallback ∧ (channel (inFrost .fallback) .tEha).state ≠ .fault) ∧
    (channelValue (lost .thawU) .tEha = none ∧ (lost .thawU).frg.state = .thawU) ∧
    ((channel (lost .fallback) .tEha).state = .fault ∧ (lost .fallback).frg.state = .fallback) ∧
    ((-100 : Int) ≤ -100 ∧ minutes 90 - 1 < minutes 90 ∧ minutes 40 - 1 < minutes 40) := by decide

/-- The cause of the ice-possible flag at its boundaries, with the flag clear, set with its hold stopped, and running. -/
theorem test_meets_ice_assessment :
    let at' := fun v flag hold => { setChannel up .tEha (good v) with
      frg := { up.frg with state := .watch, icePossible := flag, iceHold := hold, iceIndex := 9 } }
    (∀ st ∈ [FrostState.preheat, .reduce, .intent, .thawU, .thawB, .recover, .fallback], IceCause (inFrost st)) ∧
    IceCause (at' 34 false none) ∧ ¬ IceCause (at' 35 true none) ∧ ¬ IceCause up ∧
    (assessIce (at' 34 false none)).frg.iceIndex = 0 ∧ (assessIce (at' 34 true (some 480))).frg.iceHold = none ∧
    (assessIce (at' 35 true none)).frg.iceHold = some 0 ∧ (assessIce (at' 35 true (some 480))).frg.iceHold = some 480 ∧
    (assessIce (at' 35 false none)).frg.icePossible = false := by
  refine ⟨fun st h => .inl h, .inr ⟨by decide, 34, by decide, by decide⟩, ?_, ?_, by decide, by decide, by decide, by decide, by decide⟩
  · rintro (h | ⟨_, v, h, hv⟩)
    · revert h; decide
    · cases h; revert hv; decide
  · rintro (h | ⟨h, _⟩) <;> (revert h; decide)

/-- A station in REDUCE that goes to INTENT with urgency 250, with these peer entries. -/
def freezing (entries : List PeerEntry) : State :=
  { frosty fun g => { g with state := .reduce, load := 4000 } with ptb := { up.ptb with entries := entries } }

/-- The check made at the entry to INTENT, each of its outcomes. -/
theorem test_meets_intent_check :
    let ends := fun s => ((testState s).frg.state, (testState s).frg.denial, (testState s).frg.holdoff)
    let burning : State := { freezing [] with mst := { up.mst with above := [fire] } }
    ends (freezing []) = (.intent, none, some 0) ∧ combustionFlag (freezing []) = false ∧
    ends (freezing [peer 8 .intent (some 250), peer 6 .intent (some 249), peer 3 .thawU (some 255)]) = (.intent, none, some 0) ∧
    combustionFlag burning = true ∧ ends burning = (.thawB, some .combustion, none) ∧
    ends { freezing [] with lnc := { up.lnc with state := .quiet } } = (.thawB, some .line, none) ∧
    ends (freezing [peer 6 .thawU (some 0)]) = (.thawB, some .peerThaw, none) ∧
    ends (freezing [peer 6 .intent (some 250)]) = (.thawB, some .peerPrecedence, none) ∧
    inSet up.params.adj 3 = false ∧ (freezing []).lnc.state ≠ .off := by decide +kernel

/-- FALLBACK entered from INTENT and from WATCH, and left with and without a timed thaw; a thaw that ends early. -/
theorem test_meets_fallback_and_early_end :
    let lost := fun st v => { setChannel (inFrost st) .tEha ⟨.fault, none, none, none, 0⟩ with
      odr := { up.odr with tOut := some v } }
    let left := fun n => frosty fun g => { g with state := .fallback, timedThaw := n, fallbackCycle := some 0 }
    let ending := fun st => { setChannel up .tEha (good 50) with frg := { up.frg with state := st, thaw := some (minutes 3) } }
    ((channel (lost .intent (-51)) .tEha).state = .fault ∧ (lost .intent (-51)).frg.available = true) ∧
    (testState (lost .intent (-51))).lnc.urgent = some ⟨.endThaw, []⟩ ∧ (testState (lost .intent (-51))).frg.power = 50 ∧
    (testState (lost .watch (-50))).lnc.urgent = none ∧ (testState (lost .watch (-50))).frg.power = 0 ∧
    (testState (left (some 0))).lnc.urgent = some ⟨.endThaw, []⟩ ∧ (testState (left none)).lnc.urgent = none ∧
    (testState (left none)).frg.state = .watch ∧
    (∀ st ∈ [FrostState.thawU, .thawB], channelValue (ending st) .tEha = some 50 ∧ (testState (ending st)).frg.state = .recover ∧
      (testState (ending st)).lnc.urgent = some ⟨.endThaw, []⟩) := by decide +kernel

theorem test_meets_frost_timers :
    let hot := frosty fun g => { g with state := .preheat, fullPower := some 600 }
    let back := frosty fun g => { g with state := .recover, recover := some 0, heatLeft := some 480 }
    inService up = true ∧ hot.frg.state = .preheat ∧ hot.frg.fullPower = some 600 ∧ 600 ≤ 600 ∧ back.frg.state = .recover ∧
    back.frg.recover = some 0 ∧ back.frg.heatLeft = some 480 := by decide

/-- A station in INTENT at the end of its holdoff, with these peer entries. -/
def wishing (entries : List PeerEntry) : State :=
  { frosty fun g => { g with state := .intent, holdoff := some 0, urgency := some 180 } with
    ptb := { up.ptb with entries := entries } }

theorem test_meets_holdoff :
    let s := wishing [peer 6 .intent (some 180)]
    let u := wishing [peer 6 .thawU (some 1), peer 8 .intent (some 179)]
    inService s = true ∧ s.frg.state = .intent ∧ s.frg.holdoff = some 0 ∧ s.lnc.state = .active ∧ combustionFlag s = false ∧
    (∀ x ∈ (wishing []).ptb.entries, inSet up.params.adj x.position = true → x.announcement ≠ .thawU) ∧
    (∃ x ∈ u.ptb.entries, inSet u.params.adj x.position = true ∧ x.announcement = .thawU) ∧
    (∃ x ∈ s.ptb.entries, inSet s.params.adj x.position = true ∧ x.announcement = .intent ∧ entryPrecedes s x = true) ∧
    (∀ x ∈ s.ptb.entries, inSet s.params.adj x.position = true → x.announcement ≠ .thawU) ∧
    combustionFlag { s with mst := { s.mst with above := [fire] } } = true ∧
    ({ s with lnc := { s.lnc with state := .quiet } }).lnc.state = .quiet := by decide

/-- THAW_U is entered at the end of a holdoff, and no entry of equal urgency and higher position has precedence. -/
theorem test_meets_entry_to_thaw_u :
    let s := wishing [peer 8 .intent (some 180)]
    exec .holdoffExpiry s = .next (after .holdoffExpiry s) ∧ s.frg.state ≠ .thawU ∧
    (after .holdoffExpiry s).frg.state = .thawU ∧ entryPrecedes s (peer 8 .intent (some 180)) = false ∧
    entryPrecedes s (peer 6 .intent (some 180)) = true := ⟨rfl, by decide +kernel⟩

theorem test_meets_thaw_ends :
    let s := frosty fun g => { g with state := .thawU, thaw := some 0 }
    let t := frosty fun g => { g with state := .fallback, timedThaw := some 0 }
    inService s = true ∧ s.lnc.state ≠ .off ∧ s.frg.state = .thawU ∧ s.frg.thaw = some 0 ∧ channelValue s .tEha ≠ none ∧
    channelValue (setChannel s .tEha ⟨.fault, none, none, none, 0⟩) .tEha = none ∧ t.frg.timedThaw = some 0 := by decide

theorem test_meets_ice_and_cutout :
    let ice := frosty fun g => { g with icePossible := true, iceHold := some 0 }
    let tripped := frosty fun g => { g with state := .preheat, cutout := ⟨true, false, 0, false⟩ }
    let mended := frosty fun g => { g with cutout := ⟨false, true, 0, false⟩ }
    inService ice = true ∧ ice.frg.iceHold = some 0 ∧ tripped.frg.cutout = ⟨true, false, 0, false⟩ ∧
    tripped.frg.state = .preheat ∧ mended.frg.cutout = ⟨false, true, 0, false⟩ := by decide

theorem test_meets_filter_counts :
    let full := fun st v => filtered .sup fun r => { r with state := st, remainder := 10000, volume := v }
    let hour := fun st h d => filtered .sup fun r =>
      { r with state := st, runSeconds := 3600, runHours := h, hoursDue := d, remainder := 0 }
    inService (full .clean 16777214) = true ∧ (filterRecord (full .clean 16777214) .sup).volume < 16777215 ∧
    up.params.dueVol ≤ (filterRecord (full .clean 479999) .sup).volume + 1 ∧
    (filterRecord (hour .due 65534 719) .sup).runHours < 65535 ∧ (filterRecord (hour .due 65534 719) .sup).state = .due ∧
    (belowDue .clean = true ∧ up.params.dueHours ≤ (filterRecord (hour .clean 4379 0) .sup).runHours + 1) ∧
    ((filterRecord (hour .clean 23 0) .sup).runHours + 1 < up.params.dueHours ∧
      (filterRecord (hour .clean 23 0) .sup).volume < up.params.dueVol) ∧
    ((filterRecord (hour .clean 23 0) .sup).runHours + 1) % 24 = 0 ∧ up.mpt.state = .idle ∧ up.mpt.locationKnown = true ∧
    720 ≤ (filterRecord (hour .due 0 720) .sup).hoursDue := by decide

/-- An evaluation of the supply path from these counts. -/
def counted (r : FilterRecord → FilterRecord) : State := filtered .sup fun x => { r x with state := .clean }

theorem test_meets_counts_at_an_evaluation :
    inService up = true ∧ up.fdr.timer = some 0 ∧ (fan (after .fanEvaluation up) .sup).commanded = 250 ∧
    (fan (after .fanEvaluation { up with fdr := ⟨⟨toFault (fan up .sup), FanRecord.atPowerOn⟩, some 0⟩ }) .sup).commanded = 0 ∧
    ((filterRecord up .sup).remainder + 250 < 10000 ∧ (filterRecord up .sup).runSeconds + 1 < 3600) ∧
    10000 ≤ (filterRecord (counted fun r => { r with remainder := 9750 }) .sup).remainder + 250 ∧
    3600 ≤ (filterRecord (counted fun r => { r with runSeconds := 3599 }) .sup).runSeconds + 1 ∧
    (belowDue .clean = true ∧ up.params.dueVol ≤ (filterRecord (counted fun r => { r with volume := 479999 }) .sup).volume + 1 ∧
      up.params.dueHours ≤ (filterRecord (counted fun r => { r with runHours := 4379 }) .sup).runHours + 1) ∧
    (720 ≤ 719 + 1 ∧ ¬ 720 ≤ 718 + 1) := by decide +kernel

/-- A referenced record of this state. -/
def referenced (f : Fan) (st : FilterState) : State :=
  filtered f fun r => { r with state := st, dpRef := some 80, qRef := some 300, index := 20 }

theorem test_meets_index_at_an_evaluation :
    let icy := fun s : State => { s with frg := { s.frg with icePossible := true } }
    (∀ f, (fan (after .fanEvaluation up) f).state = .settled ∧
      up.params.qMeasMin ≤ (fan (after .fanEvaluation up) f).commanded ∧ (channelValue up (pressureChannel f)).isSome = true) ∧
    (filterRecord (referenced .ext .loading) .ext).dpRef = some 80 ∧ (filterRecord (referenced .ext .loading) .ext).qRef = some 300 ∧
    (after .fanEvaluation (icy (referenced .ext .loading))).frg.icePossible = true ∧
    (after .fanEvaluation (referenced .ext .loading)).frg.icePossible = false ∧
    (FilterState.blocked ≠ .due ∧ belowDue .due = false ∧ belowDue .loading = true) ∧
    (filterRecord (referenced .sup .due) .sup).referenced = true ∧ (filterRecord up .sup).referenced = false ∧
    (fan (after .fanEvaluation (fanned .sup fun r => { r with measured := 0 })) .sup).state = .running := by
  refine ⟨fun f => by cases f <;> decide +kernel, ?_⟩
  decide +kernel

theorem test_meets_capture_at_an_evaluation :
    let qualifying := fun n dp => setChannel (filtered .sup fun r => { r with capture := n, previousFlow := some 250 }) .pSupf (good dp)
    (filterRecord (qualifying none 90) .sup).referenced = false ∧ (fan (after .fanEvaluation (qualifying none 90)) .sup).commanded = 250 ∧
    (filterRecord (qualifying none 90) .sup).previousFlow = some 250 ∧ (filterRecord up .sup).previousFlow ≠ some 250 ∧
    (filterRecord (qualifying (some 58) 90) .sup).capture = some 58 ∧ 58 + 1 < 60 ∧ 60 ≤ 59 + 1 ∧
    channelValue (qualifying (some 59) 5) (pressureChannel .sup) = some 5 ∧
    channelValue (qualifying (some 59) 4) (pressureChannel .sup) = some 4 := by decide +kernel

theorem test_meets_blocked_and_capture :
    let s := filtered .ext fun r => { r with blocked := some 0, capture := some 60 }
    let low := setChannel s .pExt (good 4)
    let edge := setChannel s .pExt (good 5)
    inService s = true ∧ (filterRecord s .ext).blocked = some 0 ∧ (filterRecord s .ext).capture = some 60 ∧
    (filterRecord s .ext).referenced = false ∧ channelValue low (pressureChannel .ext) = some 4 ∧
    channelValue edge (pressureChannel .ext) = some 5 := by decide

theorem test_meets_filter_button :
    let s : State := { up with flm := { up.flm with button := ⟨false, true, 0, false⟩, hold := some 0 } }
    inService s = true ∧ s.flm.button = ⟨false, true, 0, false⟩ ∧ s.flm.hold = some 0 ∧ s.mpt.state = .idle ∧
    s.mpt.locationKnown = true ∧ (saving 0 false false).mpt.state = .saving ∧
    ({ up with flm := { up.flm with button := ⟨true, false, 0, false⟩ } }).flm.button = ⟨true, false, 0, false⟩ ∧
    ({ up with mpt := { up.mpt with locationKnown := false } }).mpt.locationKnown = false := by decide

/-- A record at the ends of the places it is saved in. -/
theorem test_meets_record_block :
    let r : FilterRecord := { FilterRecord.atPowerOn with
      state := .due, dpRef := some 1, qRef := some 65535, index := 255, runHours := 65535, volume := 16777215, hoursDue := 720 }
    RecordFits r ∧ RecordFits FilterRecord.atPowerOn ∧ byteSum (recordBlock ⟨r, FilterRecord.atPowerOn⟩) = 0 ∧
    recordBytes r = [3, 0, 1, 255, 255, 255, 255, 255, 255, 255, 255, 2, 208] :=
  ⟨⟨fun _ h => (by cases h; decide), fun _ h => (by cases h; decide), by decide⟩,
    ⟨fun _ h => (by cases h), fun _ h => (by cases h), by decide⟩, by decide, by decide⟩

theorem test_meets_saves :
    (∀ r q, inService (saving 0 r q) = true ∧ (saving 0 r q).mpt.save = some (saveAt 0 r) ∧
      (saveAt 0 r).reading = r ∧ (saving 0 r q).mpt.savePoll = some 0 ∧ (saving 0 r q).mpt.saveBusy = some 0 ∧
      Memory.wf (saving 0 r q).memory = true ∧ (saving 0 r q).mpt.savePending = q) ∧
    (1 : Byte) ≠ (saveAt 0 true).bytes.getD 0 0 ∧ (saveAt 25 true).place + 1 < (saveAt 25 true).bytes.length ∧
    (saveAt 26 true).bytes.length ≤ (saveAt 26 true).place + 1 := by decide

theorem test_meets_humidity :
    let wet : State := { up with hev := { up.hev with ring := Vector.replicate 16 (some 700) } }
    let firm : State := { up with hev := { up.hev with counters := #v[2, 0, 0, 0] },
                                  msc := { up.msc with channels := up.msc.channels.set 4 (good 720) } }
    let dry : State := { up with hev := { up.hev with dry := true } }
    inService wet = true ∧ wet.hev.timer = some 0 ∧ channelValue wet .rhEta = some 480 ∧
    (after .humidityEvaluation wet).hev.ring[(after .humidityEvaluation wet).hev.writeIndex] = some 700 ∧
    (after .humidityEvaluation up).hev.ring[(after .humidityEvaluation up).hev.writeIndex] = none ∧
    (firm.hev.boost = false ∧ (after .humidityEvaluation firm).hev.boost = true) ∧
    (dry.hev.dry = true ∧ (after .humidityEvaluation dry).hev.dry = false) ∧ up.odr.rhOut = some 810 ∧
    ((after .humidityEvaluation up).hev.boost = up.hev.boost ∧ (after .humidityEvaluation up).hev.dry = up.hev.dry) := by
  decide +kernel

/-- The changes of the requests with the entries they find, and a rule's two values. -/
theorem test_meets_humidity_requests :
    let firm := fun above : List ModeEntry => ({ up with
      hev := { up.hev with counters := #v[2, 0, 0, 0] }
      msc := { up.msc with channels := up.msc.channels.set 4 (good 720) }
      mst := { up.mst with above := above } } : State)
    let drying := fun above copy => ({ up with
      hev := { up.hev with counters := #v[0, 0, 29, 0] }
      msc := { up.msc with channels := up.msc.channels.set 4 (good 290) }
      mst := { up.mst with above := above, boostCopy := copy } } : State)
    let ending := ({ up with hev := { up.hev with boost := true } } : State)
    let step := fun s : State => (after .humidityEvaluation s).hev
    ((step (firm [])).boost = true ∧ (step (firm [])).dry = up.hev.dry ∧ hasEntry (firm []).mst .humBoost = false) ∧
    ((step (firm [⟨.humBoost, 4, some 9, 1⟩])).boost = true ∧ hasEntry (firm [⟨.humBoost, 4, some 9, 1⟩]).mst .humBoost = true) ∧
    (ending.hev.boost = true ∧ (step ending).boost = false ∧ (step ending).dry = ending.hev.dry) ∧
    ((step (drying [] false)).dry = true ∧ (step (drying [] false)).boost = false ∧ (drying [] false).mst.boostCopy = false ∧
      hasEntry (drying [] false).mst .humDry = false) ∧
    ((step (drying [] true)).dry = true ∧ (drying [] true).mst.boostCopy = true) ∧
    (operandValue up.hev up.odr.tOut .zero = some 0 ∧ operandValue up.hev up.odr.tOut .tOut = some (-149)) := by
  decide +kernel

theorem test_meets_line_phases :
    let waiting := fun idle => lined fun m => { m with phase := .waiting, idleRun := idle }
    let holding := lined fun m => { m with stateSlot := some sent.frame }
    let quiet := lined fun m => { m with state := .quiet, urgent := some ⟨.endThaw, []⟩ }
    inService (waiting 0) = true ∧ (waiting 0).lnc.state ≠ .off ∧ (waiting 0).lnc.phase = .waiting ∧
    (waiting 5).lnc.idleRun ≤ bitTimes 1 ∧ bitTimes 1 < (waiting 6).lnc.idleRun ∧ up.lnc.phase = .idle ∧
    (up.lnc.urgent = none ∧ up.lnc.reply = none ∧ up.lnc.stateSlot = none) ∧ quiet.lnc.state ≠ .active ∧
    holding.lnc.state = .active ∧ holding.params.position = some 7 ∧ slotFrame holding.lnc .state = some sent.frame ∧
    (holding.lnc.urgent = none ∧ holding.lnc.reply = none) := by decide

theorem test_meets_sending_levels :
    let s := sending none
    let late := { contended (dominantAt 1) [] with
      lnc := { (contended (dominantAt 1) []).lnc with read := [false, false], frameTime := some 10 } }
    (s.powered = true ∧ s.lnc.shifter = some sent ∧ s.lnc.frameTime = some 0 ∧ s.lnc.read <+: frameOnLine sent ∧
      0 / 5 ≤ s.lnc.read.length) ∧
    (late.powered = true ∧ late.lnc.shifter = some sent ∧ 1 < 10 / 5 ∧ 1 < late.lnc.read.length ∧
      1 < (frameOnLine sent).length ∧ late.lnc.read[1]? ≠ (frameOnLine sent)[1]?) := by
  refine ⟨⟨rfl, rfl, rfl, ⟨(frameOnLine sent).tail, by decide +kernel⟩, by decide⟩, by decide +kernel⟩

theorem test_meets_sending :
    let s := fun n => { contended (dominantAt 22) [] with lnc := { (contended (dominantAt 22) []).lnc with failures := n } }
    inService (s 1) = true ∧ (s 1).lnc.shifter = some sent ∧ comparison (s 1).lnc = some (115, .bitError) ∧
    comparison (s 2).lnc = some (115, .bitError) ∧ comparison (contended (dominantAt 10) []).lnc = some (55, .lost 8) ∧
    ((sending none).lnc.frameTime = some 0 ∧ (comparison (sending none).lnc).map Prod.snd = some .success) ∧
    (sendVerdictOf (.contentionLost 3) = some (.lost 3) ∧ comparison up.lnc = none) ∧
    (s 1).lnc.failures < 2 ∧ (s 2).lnc.failures = 2 ∧ (s 1).lnc.capture = none ∧ (s 1).lnc.mark = some .state ∧
    (sending none).lnc.mark ≠ some .state ∧ (s 1).frg.state ≠ .intent ∧
    ({ s 2 with frg := { up.frg with state := .intent } }).frg.state = .intent ∧ combustionFlag (s 2) = false ∧
    (s 2).lnc.state ≠ .quiet ∧
    ({ s 1 with lnc := { (s 1).lnc with capture := some ⟨.stuck, none, none, 0⟩ } }).lnc.capture ≠ none := by decide +kernel

/-- The cases of a sender's comparison: every bit as sent, and a first mismatch at place 8, at bit 6 of the arbitration field,
at place 2, where a dominant bit is sent, and at place 22, outside the field. -/
theorem test_meets_comparisons :
    seenBySender (sending none) = frameOnLine sent ∧
    (let onLine := seenBySender (contended (dominantAt 8) []);
      onLine.take 8 = (frameOnLine sent).take 8 ∧ onLine[8]? ≠ (frameOnLine sent)[8]? ∧ (frameOnLine sent)[8]? = some true ∧
      8 = (stuff (false :: (arbitrationBits sent).take 6)).length) ∧
    (let onLine := seenBySender (contended [] [false, true]);
      onLine.take 2 = (frameOnLine sent).take 2 ∧ onLine[2]? ≠ (frameOnLine sent)[2]? ∧ (frameOnLine sent)[2]? = some false) ∧
    (let onLine := seenBySender (contended (dominantAt 22) []);
      onLine.take 22 = (frameOnLine sent).take 22 ∧ onLine[22]? ≠ (frameOnLine sent)[22]? ∧ 22 < (frameOnLine sent).length ∧
      ∀ bit : Fin 9, 22 ≠ (stuff (false :: (arbitrationBits sent).take bit.val)).length) := by decide +kernel

theorem test_meets_discarded_frames :
    let wrong := receivingBits (lineAfterStart (fieldsOf 2) (crcBits false 2)) up
    let unused := receivingBits (lineAfterStart (fieldsOf 7) (crcBits true 7)) up
    let broken := receivingBits (List.replicate 6 false) up
    let ending := receivingBits ((stuffedFrame (framed .endThaw 3 [])).tail ++ [true] ++ List.replicate 33 false) up
    (∀ s ∈ [wrong, unused, broken, neverEnding, ending], inService s = true ∧ s.lnc.state ≠ .off ∧ s.lnc.shifter = none ∧
      s.lnc.phase ≠ .waiting ∧ s.lnc.capture = none) ∧
    reception broken.lnc = (verdictOf (.stuffingViolation none none)).map (30, ·) ∧
    reception wrong.lnc = (verdictOf (.crcError 3 2)).map (180, ·) ∧
    reception unused.lnc = (verdictOf (.formError 3 7)).map (185, ·) ∧
    reception neverEnding.lnc = (verdictOf (.frameTimeout 3 2)).map (5000, ·) ∧
    (reception ending.lnc).map Prod.snd = verdictOf .stuck ∧ kindOfCode 7 = none ∧ kindOfCode 2 = some .endThaw := by
  decide +kernel

theorem test_meets_stuck_in_waiting :
    let s := fun declared => lined fun m => { m with phase := .waiting, dominantRun := 33, stuckDeclared := declared }
    inService (s false) = true ∧ (s false).lnc.state ≠ .off ∧ (s false).lnc.shifter = none ∧ (s false).lnc.phase = .waiting ∧
    (s false).lnc.frameTime = none ∧ (s false).lnc.idleRun = 0 ∧ (s false).lnc.dominantRun = 33 ∧
    (s false).lnc.stuckDeclared = false ∧ (s true).lnc.stuckDeclared = true := by decide

/-- A frame's reception as the statements of received frames suppose it. -/
def heardWhole (kind : FrameKind) (sender : Position) (payload : List Byte) (s : State) : Bool :=
  (reception (hearing kind sender payload s).lnc).map Prod.snd == some (.correct kind sender payload) &&
    (hearing kind sender payload s).lnc.state != .off && (hearing kind sender payload s).lnc.shifter == none

theorem test_meets_neighbour_frames :
    let m := (hearing .endThaw 3 [] up).lnc
    (m.shifter = none ∧ m.read = [false] ∧ m.others = (frameOnLine (framed .endThaw 3 [])).tail ∧ m.frameTime = some 0 ∧
      m.phase = .inFrame ∧ ([] : List Byte).length ≤ 63) ∧
    heardWhole .state 6 [0xBB, 180, 0xFF, 0x69, 0x03, 0x20, 0x02, 0xF8] up = true ∧ heardWhole .intent 6 [209] up = true ∧
    heardWhole .endThaw 6 [] up = true ∧ heardWhole .endThaw 6 [0] up = true ∧ inService up = true ∧
    up.params.position ≠ some 6 ∧ acceptedPosition up.params 6 = true ∧ acceptedPosition up.params 3 = false ∧
    (readState [0xBB, 180, 0xFF, 0x69, 0x03, 0x20, 0x02, 0xF8]).isSome = true ∧ readState [1] = none ∧
    readIntent [209] = some 209 ∧ readIntent [] = none ∧ (5 : Position) ≠ 6 ∧ ([0] : List Byte) ≠ [] := by decide +kernel

/-- STATE payloads at the ends of their fields' ranges and beyond them. -/
theorem test_meets_state_payloads :
    let x : StateContent := ⟨.thawU, some 255, some (-400), some 0, true, true, some 1000⟩
    UsableContent x ∧ UsableContent ⟨.none, none, some 800, some 1000, false, true, some 0⟩ ∧
    UsableContent ⟨.none, none, none, none, false, false, none⟩ ∧ stateBytes x = [0xBF, 255, 0xFE, 0x70, 0, 0, 3, 0xE8] ∧
    readState (stateBytes x) = some x ∧ readState [0x10, 0, 3, 0x21, 0, 0, 0, 0] = none ∧
    readState [0x08, 0, 0, 0, 3, 0xE9, 0, 0] = none ∧ readState [0x20, 0, 0, 0, 0, 0, 0, 0] = none ∧
    readState [0x40, 0, 0, 0, 0, 0, 0, 0] = none ∧ readState [0x01, 0, 0, 0, 0, 0, 0, 0] = none ∧
    readState (List.replicate 9 0) = none ∧ readIntent [1, 2] = none := by
  refine ⟨⟨by decide, ?_, ?_, ?_⟩, ⟨by decide, ?_, ?_, ?_⟩, ⟨by decide, ?_, ?_, ?_⟩, by decide⟩ <;>
    (intro v h; cases h <;> decide)

/-- Announcements in every frost state, with and without a timed thaw, and the content a boosting station sends. -/
theorem test_meets_announcements :
    let timed := frosty fun g => { g with state := .fallback, timedThaw := some 0, urgency := some 0 }
    let boosting := stacked fun m => { m with above := [⟨.button, 4, some 9, 1⟩] }
    announcement (inFrost .intent) = .intent ∧ announcement (inFrost .thawU) = .thawU ∧ announcement (inFrost .thawB) = .thawB ∧
    announcement timed = .thawB ∧ announcement (inFrost .fallback) = .none ∧ announcement up = .none ∧
    (stateContent timed).urgency = some 0 ∧ (stateContent boosting).exhaustRH = some 480 ∧
    (stateContent up).exhaustRH = none := by decide

/-- Occupied and empty slots, both kinds of a timer, and a full and an empty capture, as the records show them. -/
theorem test_meets_layouts :
    let s : State := { up with ptb := { up.ptb with entries := [peer 6 .thawB (some 9)] } }
    let q := lined fun m => { m with
      quiet := some 48000, urgent := some ⟨.endThaw, []⟩, capture := some ⟨.stuck, some 3, some .reply, 7⟩ }
    s.ptb.entries[0]? = some (peer 6 .thawB (some 9)) ∧ s.ptb.entries[1]? = none ∧
    (s.mst.above ++ [s.mst.base])[0]? = some s.mst.base ∧ (s.mst.above ++ [s.mst.base])[1]? = none ∧
    faultOrder[16]? = some .lineErrors ∧ faultOrder.length = 17 ∧ q.lnc.quiet = some 48000 ∧ q.lnc.listenIn = none ∧
    q.lnc.capture.isSome = true ∧ up.lnc.capture = none ∧ kindCodeOr7 (some .reply) = 6 ∧ kindCodeOr7 none = 7 ∧
    packBytes [true, false, true] = [0xA0] ∧
    recordBits s .peers 0 = fieldBits [(4, 6), (2, 3), (8, 9), (12, 2048), (10, 1023), (1, 0), (1, 0), (10, 1023), (6, 0)] := by
  decide

/-- What an entry leads to: position 8 is in PLUME and in ADJ, position 6 in ADJ and in REF. -/
theorem test_meets_what_entries_lead_to :
    let boosting := (⟨.none, none, none, none, false, true, some 700⟩ : StateContent)
    let quietly := (⟨.none, none, none, none, false, true, some 699⟩ : StateContent)
    let t := after (.stateFrame 8 (stateBytes boosting)) (hearing .state 8 (stateBytes boosting) up)
    let u := after (.stateFrame 8 (stateBytes quietly)) (hearing .state 8 (stateBytes quietly) up)
    (inSet up.params.plume 8 = true ∧ inSet up.params.plume 6 = false ∧ inSet up.params.ref 6 = true ∧
      inSet up.params.adj 6 = true ∧ inSet up.params.adj 8 = true) ∧
    (t.ptb.entries.any fun y => inSet up.params.plume y.position && y.boosting && presentAtLeast up.params.plumeRH y.exhaustRH) = true ∧
    (u.ptb.entries.all fun y => y.exhaustRH == some 699) = true ∧
    ((wishing []).frg.state = .intent ∧ (wishing []).lnc.state = .active ∧ combustionFlag (wishing []) = false) ∧
    entryPrecedes (wishing []) (peer 6 .intent (some 180)) = true ∧
    (let v := frosty fun g => { g with state := .thawU, urgency := some 180 }
     v.frg.state = .thawU ∧ entryPrecedes v (peer 6 .thawU (some 180)) = true ∧
       entryPrecedes v (peer 8 .thawU (some 180)) = false ∧ up.frg.state ≠ .intent ∧ up.frg.state ≠ .thawU) := by
  decide +kernel

theorem test_meets_replies_and_duplicates :
    heardWhole .reply 6 [0] up = true ∧ heardWhole .query 7 [] up = true ∧ up.params.position = some 7 ∧
    frameSender (.queryLine 7 []) = some 7 ∧ verdictOf (.queryLine 7 []) = some (.correct .query 7 []) ∧
    up.lnc.duplicate = false ∧
    (after (.replyFrame 7 []) (hearing .reply 7 [] up)).mpt.configResult = .ok := by decide +kernel

theorem test_meets_service_frames :
    let s := setFan (setFault up .lineErrors ⟨true, 3, 1, 2⟩) .ext (toFault (fan up .ext))
    heardWhole .query 15 [7, 2, 14, 1] up = true ∧ heardWhole .query 15 [] up = true ∧ heardWhole .query 15 [3, 2, 0, 1] up = true ∧
    heardWhole .query 15 [7, 9, 0, 1] up = true ∧ heardWhole .clear 15 [7, 0] up = true ∧ heardWhole .clear 15 [7, 1] s = true ∧
    heardWhole .clear 15 [7, 2] s = true ∧ heardWhole .clear 15 [7, 3] up = true ∧
    heardWhole .query 15 [7, 2, 0, 1] (lined fun m => { m with state := .quiet }) = true ∧
    inService up = true ∧ up.lnc.state = .active ∧ up.lnc.shifter = none ∧ up.params.position = some 7 ∧
    (7 : Position) ≠ 15 ∧ (7 : Byte).toNat = (7 : Position).toNat ∧ (3 : Byte).toNat ≠ (7 : Position).toNat ∧
    (2 : Byte).toNat = spaceCode .peers ∧ spaceSize .peers < (14 : Byte).toNat + (1 : Byte).toNat ∧
    (0 : Byte).toNat + (14 : Byte).toNat ≤ spaceSize .peers ∧
    ((faultRecord s .lineErrors).active = true ∧ (faultRecord s .memoryWrite).active = false) ∧
    (faultRecord (setFault s .memoryWrite ⟨true, 1, 1, 1⟩) .memoryWrite).active = true ∧
    ((fan s .ext).state = .fault ∧ (fan s .sup).state ≠ .fault) := by decide +kernel

theorem test_meets_line_timers :
    let q := lined fun m => { m with state := .quiet, quiet := some 0 }
    let l := lined fun m => { m with state := .listen, listenIn := some 0 }
    inService q = true ∧ q.lnc.state = .quiet ∧ q.lnc.quiet = some 0 ∧ l.lnc.state = .listen ∧ l.lnc.listenIn = some 0 ∧
    up.lnc.state ≠ .off ∧ up.lnc.statePeriod = some 0 := by decide

theorem test_meets_ageing_and_plume :
    let loud : PeerEntry := { peer 8 .none none with boosting := true, exhaustRH := some 700 }
    let s : State := { up with ptb := ⟨[{ peer 6 .none none with age := 7 }, loud], some 0⟩
                               odr := { up.odr with plume := true, plumeHold := some 0, tRef := some (-148) } }
    let blind := setChannel (setChannel s .tOda ⟨.fault, none, none, none, 0⟩) .rhOda ⟨.fault, none, none, none, 0⟩
    inService s = true ∧ s.ptb.timer = some 0 ∧
    (∃ x ∈ (after .ageingTick s).ptb.entries, inSet s.params.plume x.position = true ∧ x.boosting = true ∧
      ∃ rh, x.exhaustRH = some rh ∧ s.params.plumeRH ≤ rh) ∧
    (∃ x ∈ s.ptb.entries, x.position = 6 ∧ 2 ^ s.params.peerExp - 1 ≤ x.age) ∧ s.odr.plumeHold = some 0 ∧
    channelValue s .tOda = some (-149) ∧ channelValue s .rhOda = some 810 ∧ channelValue blind .tOda = none ∧
    blind.odr.tRef = some (-148) ∧ channelValue blind .rhOda = none ∧ blind.odr.rhRef = none ∧
    ({ blind with odr := { blind.odr with tRef := none, rhRef := some 800 } }).odr.rhRef = some 800 := by
  refine ⟨by decide, by decide, ⟨_, List.mem_singleton.2 rfl, by decide, by decide, 700, by decide, by decide⟩, ?_⟩
  decide

/-- R151 with the plume flag set and clear: own sensors, terrace references, and the last resort. -/
theorem test_meets_effective_values :
    let loud : PeerEntry := { peer 8 .none none with boosting := true, exhaustRH := some 700 }
    let near : PeerEntry := { peer 6 .none none with outdoorT := some (-148), outdoorRH := some 800 }
    let aged := fun entries s => after .ageingTick { s with ptb := ⟨entries, some 0⟩ }
    let blind := setChannel (setChannel up .tOda ⟨.fault, none, none, none, 0⟩) .rhOda ⟨.fault, none, none, none, 0⟩
    (aged [near] up).odr = ⟨false, none, some (-148), some 800, some (-149), some .own, some 810, some .own⟩ ∧
    (aged [near, loud] up).odr =
      ⟨true, some 0, some (-148), some 800, some (-148), some .terrace, some 800, some .terrace⟩ ∧
    (aged [loud] up).odr = ⟨true, some 0, none, none, some (-200), some .constant, none, some .absent⟩ ∧
    (aged [near] blind).odr = ⟨false, none, some (-148), some 800, some (-148), some .terrace, some 800, some .terrace⟩ ∧
    (aged [] blind).odr = ⟨false, none, none, none, some (-200), some .constant, none, some .absent⟩ := by decide +kernel

/-- The lamps' causes, each pattern among them, and a state in which every lamp shows its cause. -/
theorem test_meets_lamp_causes :
    let in' := fun st => filtered .ext fun r => { r with state := st }
    let lost : State := { up with mpt := { up.mpt with configResult := .header } }
    let double := lined fun m => { m with duplicate := true }
    LampsFollow up ∧ exec (.inputLevelChange .boost false) up = .next (after (.inputLevelChange .boost false) up) ∧
    inService (after .scanCompletion up) = true ∧
    (topEntry (stacked fun m => { m with above := [⟨.button, 4, some 9, 1⟩] }).mst).origin = .button ∧
    (topEntry (stacked fun m => { m with above := [⟨.humBoost, 4, none, 1⟩] }).mst).origin = .humBoost ∧
    filterPattern (in' .overdue) = .flash ∧ filterPattern (in' .blocked) = .flash ∧ filterPattern (in' .due) = .steady ∧
    filterPattern (in' .loading) = .dark ∧ lost.mpt.configResult ≠ .ok ∧ double.lnc.duplicate = true ∧
    faultPattern (setFault up .lineErrors ⟨true, 1, 1, 1⟩) = .steady ∧ faultPattern up = .dark :=
  ⟨⟨rfl, rfl, rfl⟩, rfl, by decide +kernel⟩

theorem test_meets_lamps :
    let due := filtered .sup fun r => { r with state := .overdue }
    let lamp := fun p n (s : State) => { s with srf := { s.srf with filterLamp := ⟨p, n, 0⟩, faultLamp := ⟨p, n, 0⟩ } }
    let lost : State := { up with mpt := { up.mpt with configResult := .header } }
    let double := lined fun m => { m with duplicate := true }
    inService due = true ∧
    (∀ n ∈ [0, 1], filterPattern (lamp .flash n due) = .flash ∧ (lamp .flash n due).srf.filterLamp = ⟨.flash, n, 0⟩) ∧
    (∀ n ∈ [0, 2, 3], faultPattern (lamp .doubleFlash n lost) = .doubleFlash ∧
      (lamp .doubleFlash n lost).srf.faultLamp = ⟨.doubleFlash, n, 0⟩) ∧
    (∀ n ∈ [0, 4, 5], faultPattern (lamp .tripleFlash n double) = .tripleFlash ∧
      (lamp .tripleFlash n double).srf.faultLamp = ⟨.tripleFlash, n, 0⟩) := by decide

theorem test_meets_block_frames :
    exec .scanCompletion up = .next (after .scanCompletion up) ∧ writesMemory .scanCompletion = false ∧
    movesStack .scanCompletion = false ∧ samplesChannels .scanCompletion = false ∧ changesPeers .scanCompletion = false ∧
    movesLastSender .scanCompletion = false ∧ mayComplete .scanCompletion = false ∧ ofSupply .scanCompletion = false ∧
    movesFans .countdownTick = false ∧ countsFilters .scanCompletion = false ∧ movesLoad .scanCompletion = false ∧
    movesLine .scanCompletion = false ∧ movesOutdoor .scanCompletion = false := ⟨rfl, by decide⟩

/-- Every invariant of the tier 3 statements holds in `up`, and `up` steps. -/
theorem test_meets_invariants :
    BalanceInv up ∧ DutyInv up ∧ PreheaterInv up ∧ StackLaw up.mst ∧ SilentInv up ∧ MemoryLaw up ∧ PeerInv up ∧
    CounterInv up ∧ LoadLaw up ∧ step up = .next (passTime 5 up) where
  left := ⟨⟨by decide, by decide⟩, by unfold UnbalancedThawLaw; decide, by unfold loading; decide⟩
  right :=
    ⟨⟨by unfold DutyLaw; intro f; cases f <;> decide, by decide, fun h => absurd h (by unfold loading; decide)⟩,
      ⟨by decide, by decide, by decide, by unfold loading; decide⟩,
      ⟨by decide, by decide, by decide, by decide, trivial⟩,
      ⟨by unfold SilentLaw; decide, by unfold loading; decide⟩, rfl,
      ⟨⟨trivial, by decide, by decide, by decide⟩, by decide, by unfold loading; decide⟩,
      ⟨by unfold CounterLaw; decide, by unfold loading; decide⟩, by unfold LoadLaw; decide, rfl⟩

end Sys2Proof.Tests
end

section
/-! SUPPORT. The measurement scanner's own rules: the bands of raw readings, what a sample and a hold's expiry do to the
channel's record, its SENS kind and its readers, and what the tachometers count; the frost guard's entry to FALLBACK and its
leaving; the records at reset. -/

namespace Sys2Proof.Machine
open Sys2Proof.Safety

/-! ### Frames of the fault set and the lamps -/

theorem refreshLamps_eq (s : State) : ∃ srf, refreshLamps s = { s with srf := srf } := by
  unfold refreshLamps; split
  · exact ⟨_, rfl⟩
  · exact ⟨s.srf, rfl⟩

theorem markActive_eq (k : FaultKind) (s : State) : ∃ srf, markActive k s = { s with srf := srf } := by
  unfold markActive; split
  · exact ⟨s.srf, rfl⟩
  · exact ⟨_, rfl⟩

theorem markInactive_eq (k : FaultKind) (s : State) : ∃ srf, markInactive k s = { s with srf := srf } := ⟨_, rfl⟩

@[simp] theorem refreshLamps_uptime (s : State) : (refreshLamps s).uptime = s.uptime := (refreshLamps_kept s).uptime
@[simp] theorem refreshLamps_msc (s : State) : (refreshLamps s).msc = s.msc := (refreshLamps_kept s).msc
@[simp] theorem refreshLamps_odr (s : State) : (refreshLamps s).odr = s.odr := (refreshLamps_kept s).odr
@[simp] theorem refreshLamps_params (s : State) : (refreshLamps s).params = s.params := (refreshLamps_kept s).params

@[simp] theorem refreshLamps_frg (s : State) : (refreshLamps s).frg = s.frg := by
  obtain ⟨srf, e⟩ := refreshLamps_eq s; rw [e]

@[simp] theorem refreshLamps_lnc (s : State) : (refreshLamps s).lnc = s.lnc := by
  obtain ⟨srf, e⟩ := refreshLamps_eq s; rw [e]

/-- A kind marked inactive is inactive (R174). -/
@[simp] theorem markInactive_inactive (s : State) (k : FaultKind) :
    (faultRecord (markInactive k s) k).active = false := by simp [markInactive]

/-- A channel record belongs to the scanner, and a fan's record to the fan drive. -/
theorem channel_of_msc {s t : State} (h : t.msc = s.msc) (ch : Channel) : channel t ch = channel s ch := by
  simp [channel, h]

theorem fan_of_fdr {s t : State} (h : t.fdr = s.fdr) (f : Fan) : fan t f = fan s f := by simp [fan, h]

@[simp] theorem channel_refreshLamps (s : State) (ch : Channel) : channel (refreshLamps s) ch = channel s ch :=
  channel_of_msc (refreshLamps_msc s) ch

theorem outdoorInEffect_refreshLamps {s : State} (h : OutdoorInEffect s) : OutdoorInEffect (refreshLamps s) :=
  inEffect_congr h (refreshLamps_odr s) (refreshLamps_msc s)

/-! ### The passing of time -/

theorem passTime_uptime {s : State} (h : s.powered = true) (d : Nat) : (passTime d s).uptime = s.uptime + d := by
  simp [passTime, h]

/-- Time changes nothing of a channel's record but its hold timer. -/
theorem passTime_channel (d : Nat) (s : State) (ch : Channel) : channel (passTime d s) ch =
    if s.powered then { channel s ch with hold := runTimer channelHold d (channel s ch).hold } else channel s ch := by
  unfold passTime; split
  · simp [channel, Scanner.pass, ChannelRecord.pass]
  · rfl

@[simp] theorem passTime_channelState (d : Nat) (s : State) (ch : Channel) :
    (channel (passTime d s) ch).state = (channel s ch).state := by rw [passTime_channel]; split <;> rfl

@[simp] theorem passTime_evaluated (d : Nat) (s : State) : (passTime d s).frg.evaluated = s.frg.evaluated := by
  unfold passTime; split <;> rfl

@[simp] theorem passTime_pulses (d : Nat) (s : State) : (passTime d s).msc.pulses = s.msc.pulses := by
  unfold passTime; split <;> rfl

/-! ### Classification of samples (R2, R3) -/

theorem classify_top {n : Nat} (h : 4080 ≤ n) (c : InputClass) : classify c n = .bad (topReason c) := by
  simp [classify, h]

theorem classify_bottom {n : Nat} (h : n ≤ 15) (c : InputClass) : classify c n = .bad (bottomReason c) := by
  simp [classify, h]; omega

/-- A reading within the wiring limits is good where its converted value is accepted. -/
theorem classify_good {n : Nat} {c : InputClass} {v : Int} (lo : 16 ≤ n) (hi : n ≤ 4079) (hv : convert c n = v)
    (ok : accepted c v = true) : classify c n = .good v := by
  rw [classify, if_neg (by omega), if_neg (by omega), hv, if_pos ok]

/-- A reading within the wiring limits is out of range where its converted value is not accepted. -/
theorem classify_outOfRange {n : Nat} {c : InputClass} (lo : 16 ≤ n) (hi : n ≤ 4079)
    (out : accepted c (convert c n) = false) : classify c n = .bad .outOfRange := by
  rw [classify, if_neg (by omega), if_neg (by omega), if_neg (by simp [out])]

theorem inRange_iff (lo hi v : Int) : inRange lo hi v = true ↔ lo ≤ v ∧ v ≤ hi := by simp [inRange]

theorem inRange_false_iff (lo hi v : Int) : inRange lo hi v = false ↔ v < lo ∨ hi < v := by
  rw [← Bool.not_eq_true, inRange_iff]; omega

/-- From a raw reading of 410 on the ratiometric conversion is a plain quotient (R3). -/
theorem ratiometric_of_ge {n : Nat} (h : 410 ≤ n) : ratiometric n = (((n - 410) * 1000 / 3276 : Nat) : Int) := by
  obtain ⟨k, rfl⟩ := Nat.exists_eq_add_of_le h
  rw [ratiometric, Int.tdiv_eq_ediv_of_nonneg (by omega)]; omega

/-- Below a raw reading of 410 the ratiometric conversion truncates toward zero from below (R3). -/
theorem ratiometric_of_le {n : Nat} (h : n ≤ 410) : ratiometric n = -(((410 - n) * 1000 / 3276 : Nat) : Int) := by
  have swap : ((n : Int) - 410) * 1000 = -((410 - (n : Int)) * 1000) := by omega
  rw [ratiometric, swap, Int.neg_tdiv, Int.tdiv_eq_ediv_of_nonneg (by omega)]; omega

/-- Outside the small band below zero a pressure input converts as a humidity input does (R3). -/
theorem convert_pressure_of_outside {n : Nat} (h : ratiometric n < -12 ∨ -1 < ratiometric n) :
    convert .pressure n = ratiometric n := by
  simp [convert, (inRange_false_iff _ _ _).2 h]

theorem convert_pressure_of_ge {n : Nat} (h : 410 ≤ n) : convert .pressure n = ratiometric n :=
  convert_pressure_of_outside (by rw [ratiometric_of_ge h]; omega)

/-- A pressure input rests at zero flow with a little offset: 368 to 410 convert to 0 (R3). -/
theorem convert_pressure_offset {n : Nat} (lo : 368 ≤ n) (hi : n ≤ 410) : convert .pressure n = 0 := by
  have value := ratiometric_of_le hi
  by_cases band : inRange (-12) (-1) (ratiometric n) = true
  · simp [convert, band]
  · have zero : ratiometric n = 0 := by rw [inRange_iff] at band; omega
    simp [convert, zero, inRange]

/-- The bands of a temperature input (R2, R3). -/
theorem classify_temperature (n : Nat) :
    (n ≤ 15 → classify .temperature n = .bad .short) ∧ (4080 ≤ n → classify .temperature n = .bad .opened) ∧
    (16 ≤ n → n ≤ 292 → classify .temperature n = .bad .outOfRange) ∧
    (293 ≤ n → n ≤ 3805 → classify .temperature n = .good (((n * 1400 / 4095 : Nat) : Int) - 500)) ∧
    (3806 ≤ n → n ≤ 4079 → classify .temperature n = .bad .outOfRange) := by
  refine ⟨fun h => classify_bottom h _, fun h => classify_top h _, fun lo hi => ?_, fun lo hi => ?_, fun lo hi => ?_⟩
  · exact classify_outOfRange lo (by omega) ((inRange_false_iff _ _ _).2 (by simp only [convert]; omega))
  · exact classify_good (by omega) (by omega) rfl ((inRange_iff _ _ _).2 (by omega))
  · exact classify_outOfRange (by omega) hi ((inRange_false_iff _ _ _).2 (by simp only [convert]; omega))

/-- The bands of a humidity input (R2, R3). -/
theorem classify_humidity (n : Nat) :
    (n ≤ 15 → classify .humidity n = .bad .opened) ∧ (4080 ≤ n → classify .humidity n = .bad .short) ∧
    (16 ≤ n → n ≤ 406 → classify .humidity n = .bad .outOfRange) ∧
    (407 ≤ n → n ≤ 3689 → classify .humidity n = .good (ratiometric n)) ∧
    (3690 ≤ n → n ≤ 4079 → classify .humidity n = .bad .outOfRange) := by
  refine ⟨fun h => classify_bottom h _, fun h => classify_top h _, fun lo hi => ?_, fun lo hi => ?_, fun lo hi => ?_⟩
  · refine classify_outOfRange lo (by omega) ((inRange_false_iff _ _ _).2 ?_)
    rw [convert, ratiometric_of_le (by omega)]; omega
  · refine classify_good (by omega) (by omega) rfl ((inRange_iff _ _ _).2 ?_)
    rcases Nat.le_total n 410 with h | h
    · rw [ratiometric_of_le h]; omega
    · rw [ratiometric_of_ge h]; omega
  · refine classify_outOfRange (by omega) hi ((inRange_false_iff _ _ _).2 ?_)
    rw [convert, ratiometric_of_ge (by omega)]; omega

/-- The bands of a pressure input (R2, R3). -/
theorem classify_pressure (n : Nat) :
    (n ≤ 15 → classify .pressure n = .bad .opened) ∧ (4080 ≤ n → classify .pressure n = .bad .short) ∧
    (16 ≤ n → n ≤ 367 → classify .pressure n = .bad .outOfRange) ∧
    (368 ≤ n → n ≤ 410 → classify .pressure n = .good 0) ∧
    (410 ≤ n → n ≤ 3689 → classify .pressure n = .good (ratiometric n)) ∧
    (3690 ≤ n → n ≤ 4079 → classify .pressure n = .bad .outOfRange) := by
  refine ⟨fun h => classify_bottom h _, fun h => classify_top h _, fun lo hi => ?_, fun lo hi => ?_, fun lo hi => ?_,
    fun lo hi => ?_⟩
  · have low : ratiometric n < -12 := by rw [ratiometric_of_le (by omega)]; omega
    refine classify_outOfRange lo (by omega) ((inRange_false_iff _ _ _).2 (.inl ?_))
    rw [convert_pressure_of_outside (.inl low)]; omega
  · exact classify_good (by omega) (by omega) (convert_pressure_offset lo hi) rfl
  · refine classify_good (by omega) (by omega) (convert_pressure_of_ge lo) ((inRange_iff _ _ _).2 ?_)
    rw [ratiometric_of_ge lo]; omega
  · refine classify_outOfRange (by omega) hi ((inRange_false_iff _ _ _).2 ?_)
    rw [convert_pressure_of_ge (by omega), ratiometric_of_ge (by omega)]; omega

/-! ### What readers take from a changed record (R11) -/

@[simp] theorem outdoorChanged_msc (s : State) : (outdoorChanged s).msc = s.msc := by
  unfold outdoorChanged; split <;> rfl

@[simp] theorem outdoorChanged_srf (s : State) : (outdoorChanged s).srf = s.srf := by
  unfold outdoorChanged; split <;> rfl

@[simp] theorem outdoorChanged_uptime (s : State) : (outdoorChanged s).uptime = s.uptime := by
  unfold outdoorChanged; split <;> rfl

theorem exhaustChanged_kept (before after : ChannelRecord) (s : State) : Kept s (exhaustChanged before after s) := by
  unfold exhaustChanged; split
  · exact exhaustLost_kept s
  · split
    · exact exhaustBack_kept s
    · exact Kept.refl s

@[simp] theorem exhaustChanged_srf (before after : ChannelRecord) (s : State) :
    (exhaustChanged before after s).srf = s.srf := by
  unfold exhaustChanged; split
  · exact exhaustLost_srf s
  · split
    · exact exhaustBack_srf s
    · rfl

/-- Everything a record's change can ask of its readers (R11). -/
theorem handOver_cases (ch : Channel) (before after : ChannelRecord) (s : State) :
    handOver ch before after s = s ∨ handOver ch before after s = outdoorChanged s ∨
      handOver ch before after s = refreshAvailability s ∨ handOver ch before after s = exhaustChanged before after s := by
  unfold handOver; split
  · exact .inl rfl
  · cases ch with
    | tOda => exact .inr (.inl rfl)
    | rhOda => exact .inr (.inl rfl)
    | tSup => exact .inr (.inr (.inl rfl))
    | tEha => exact .inr (.inr (.inr rfl))
    | tEta => exact .inl rfl
    | rhEta => exact .inl rfl
    | pSupf => exact .inl rfl
    | pExt => exact .inl rfl

/-- No reader changes a channel record. -/
@[simp] theorem handOver_msc (ch : Channel) (before after : ChannelRecord) (s : State) :
    (handOver ch before after s).msc = s.msc := by
  rcases handOver_cases ch before after s with e | e | e | e <;> rw [e]
  · exact outdoorChanged_msc s
  · exact (refreshAvailability_kept s).msc
  · exact (exhaustChanged_kept before after s).msc

/-- No reader changes a fault record. -/
@[simp] theorem handOver_srf (ch : Channel) (before after : ChannelRecord) (s : State) :
    (handOver ch before after s).srf = s.srf := by
  rcases handOver_cases ch before after s with e | e | e | e <;> rw [e]
  · exact outdoorChanged_srf s
  · exact refreshAvailability_srf s
  · exact exhaustChanged_srf before after s

@[simp] theorem handOver_uptime (ch : Channel) (before after : ChannelRecord) (s : State) :
    (handOver ch before after s).uptime = s.uptime := by
  rcases handOver_cases ch before after s with e | e | e | e <;> rw [e]
  · exact outdoorChanged_uptime s
  · exact (refreshAvailability_kept s).uptime
  · exact (exhaustChanged_kept before after s).uptime

/-- A record that keeps its state and its value is not handed on (R11). -/
theorem handOver_of_unchanged (ch : Channel) {before after : ChannelRecord} (s : State)
    (state : after.state = before.state) (value : after.value = before.value) : handOver ch before after s = s := by
  simp [handOver, state, value]

/-- T_EHA becomes VALID: FALLBACK is left (R83). -/
theorem handOver_exhaust_valid {before after : ChannelRecord} (s : State) (valid : after.state = .valid)
    (other : before.state ≠ .valid) : handOver .tEha before after s = exhaustBack s := by
  simp [handOver, exhaustChanged, valid, other]

/-- T_EHA goes to FAULT: the guard loses it (R81). -/
theorem handOver_exhaust_fault {before after : ChannelRecord} (s : State) (fault : after.state = .fault)
    (other : before.state ≠ .fault) : handOver .tEha before after s = exhaustLost s := by
  simp [handOver, exhaustChanged, fault, other]

/-- A change of T_ODA's or RH_ODA's record is taken by an outdoor resolver in service (R151, R152). -/
theorem handOver_outdoor {ch : Channel} (outdoor : ch = .tOda ∨ ch = .rhOda) {before after : ChannelRecord} {s : State}
    (served : inService s = true) (changed : after.state ≠ before.state ∨ after.value ≠ before.value) :
    handOver ch before after s = updateEffective s := by
  have moved : ¬ (before.state = after.state ∧ before.value = after.value) :=
    fun same => changed.elim (· same.1.symm) (· same.2.symm)
  rcases outdoor with rfl | rfl <;> simp [handOver, moved, outdoorChanged, served]

/-! ### The frost guard at a change of T_EHA's record (R81, R83) -/

/-- Leaving FALLBACK depends on the guard and the line before it, and after it on the guard, the line, and what the
ice-possible cause is judged by. -/
theorem leavesFallback_congr {s s' t t' : State} (h : LeavesFallback s t) (frg : s'.frg = s.frg) (lnc : s'.lnc = s.lnc)
    (frg' : t'.frg = t.frg) (lnc' : t'.lnc = t.lnc) (params' : t'.params = t.params) (msc' : t'.msc = t.msc) :
    LeavesFallback s' t' where
  state := by rw [frg']; exact h.state
  load := by rw [frg']; exact h.load
  timers := by rw [frg']; exact h.timers
  urgency := by rw [frg']; exact h.urgency
  power := by rw [frg']; exact h.power
  thawing := by rw [frg, lnc, lnc']; exact h.thawing
  others := by rw [frg, lnc, lnc']; exact h.others
  ice := iceAssessed_congr h.ice (by rw [frg]) (by rw [frg]) (by rw [frg']) (by rw [frg']) (by rw [frg']) (by rw [frg'])
    params' msc'

/-- Entering FALLBACK depends on the guard, the outdoor temperature and the line before it, and after it on the guard, the
line, and what the ice-possible cause is judged by. -/
theorem entersFallback_congr {s s' t t' : State} (h : EntersFallback s t) (frg : s'.frg = s.frg) (odr : s'.odr = s.odr)
    (lnc : s'.lnc = s.lnc) (frg' : t'.frg = t.frg) (lnc' : t'.lnc = t.lnc) (params' : t'.params = t.params)
    (msc' : t'.msc = t.msc) : EntersFallback s' t' where
  entered :=
    { state := by rw [frg']; exact h.entered.state
      timers := by rw [frg']; exact h.entered.timers
      cycle := by rw [frg']; exact h.entered.cycle
      urgency := by rw [frg']; exact h.entered.urgency
      available := by rw [frg, frg']; exact h.entered.available
      power := by rw [frg, frg', odr]; exact h.entered.power
      heat := by rw [frg, frg']; exact h.entered.heat
      ice := iceAssessed_congr h.entered.ice (by rw [frg]) (by rw [frg]) (by rw [frg']) (by rw [frg']) (by rw [frg'])
        (by rw [frg']) params' msc' }
  load := by rw [frg, frg']; exact h.load
  withdrawn := by rw [frg, lnc, lnc']; exact h.withdrawn
  others := by rw [frg, lnc, lnc']; exact h.others

theorem leavesFallback_refreshLamps {s t : State} (h : LeavesFallback s t) : LeavesFallback s (refreshLamps t) :=
  leavesFallback_congr h rfl rfl (refreshLamps_frg t) (refreshLamps_lnc t) (refreshLamps_params t) (refreshLamps_msc t)

theorem entersFallback_refreshLamps {s t : State} (h : EntersFallback s t) : EntersFallback s (refreshLamps t) :=
  entersFallback_congr h rfl rfl rfl (refreshLamps_frg t) (refreshLamps_lnc t) (refreshLamps_params t) (refreshLamps_msc t)

@[simp] theorem stageEnd_frg (s : State) : (stageEnd s).frg = s.frg := rfl

/-- END stands in the URGENT slot of a line that is not OFF (R129). -/
theorem stageEnd_urgent {s : State} (h : s.lnc.state ≠ .off) : (stageEnd s).lnc.urgent = some ⟨.endThaw, []⟩ := by
  simp [stageEnd, stage, stageIn, h, setSlot]

@[simp] theorem moveTo_lnc (st : FrostState) (s : State) : (moveTo st s).lnc = s.lnc := by
  obtain ⟨flm, flag, hold, index, e⟩ := moveTo_eq st s; rw [e]

/-- A power set between evaluations stands at once, and HEAT goes off with power 0 (R70). -/
theorem setPower_eq (power : Nat) (m : FrostGuard) : ∃ left, setPower power m =
    { m with power := power, heatOn := if power = 0 then false else m.heatOn, heatLeft := left } := by
  unfold setPower
  by_cases off : power = 0
  · exact ⟨none, by simp [off, stopHeat]⟩
  · exact ⟨m.heatLeft, by simp [off]⟩

theorem moveTo_assessed_of (st : FrostState) {s t : State} (flag : t.frg.icePossible = s.frg.icePossible)
    (hold : t.frg.iceHold = s.frg.iceHold) : IceAssessed s (moveTo st t) :=
  iceAssessed_congr (moveTo_assessed st t) flag.symm hold.symm rfl rfl rfl rfl rfl rfl

theorem iceAssessed_stageEnd {s t : State} (h : IceAssessed s t) : IceAssessed s (stageEnd t) :=
  iceAssessed_congr h rfl rfl rfl rfl rfl rfl rfl rfl

/-- FALLBACK is left for WATCH with the load, the timers and the urgency cleared and the preheater off (R83). -/
theorem leaveFallback_frg (s : State) : ∃ flag hold index, (leaveFallback s).frg = { stopHeat s.frg with
    state := .watch, load := 0, fallbackCycle := none, timedThaw := none, urgency := none, fullPower := none,
    icePossible := flag, iceHold := hold, iceIndex := index } := by
  unfold leaveFallback; dsimp only
  obtain ⟨flm, flag, hold, index, moved⟩ := moveTo_eq .watch { s with frg := stopHeat { s.frg with
    load := 0, fallbackCycle := none, timedThaw := none, urgency := none } }
  rw [moved]
  split <;> exact ⟨flag, hold, index, rfl⟩

theorem leaveFallback_lnc (s : State) :
    (leaveFallback s).lnc = if s.frg.timedThaw.isSome then (stageEnd s).lnc else s.lnc := by
  unfold leaveFallback; dsimp only; split
  · simp [stageEnd, stage]
  · exact moveTo_lnc _ _

theorem leaveFallback_assessed (s : State) : IceAssessed s (leaveFallback s) := by
  unfold leaveFallback; dsimp only; split
  · exact iceAssessed_stageEnd (moveTo_assessed_of _ rfl rfl)
  · exact moveTo_assessed_of _ rfl rfl

theorem leaveFallback_leaves (s : State) : LeavesFallback s (leaveFallback s) := by
  obtain ⟨flag, hold, index, frost⟩ := leaveFallback_frg s
  have line := leaveFallback_lnc s
  constructor
  case state => rw [frost]
  case load => rw [frost]
  case timers => rw [frost]; exact ⟨rfl, rfl⟩
  case urgency => rw [frost]
  case power => rw [frost]; exact ⟨rfl, rfl⟩
  case thawing => intro timed on; rw [line, if_pos (Option.isSome_iff_ne_none.2 timed)]; exact stageEnd_urgent on
  case others => intro idle; rw [line, idle]; rfl
  case ice => exact leaveFallback_assessed s

/-- FALLBACK is entered with its cycle timer started, the other timers and the urgency cleared, and its own power (R81). -/
theorem enterFallback_frg (s : State) : ∃ left flag hold index, (enterFallback s).frg = { s.frg with
    state := .fallback, holdoff := none, recover := none, fallbackCycle := some 0, timedThaw := none, urgency := none,
    fullPower := none, power := fallbackPower s, heatOn := if fallbackPower s = 0 then false else s.frg.heatOn,
    heatLeft := left, icePossible := flag, iceHold := hold, iceIndex := index } := by
  obtain ⟨left, power⟩ := setPower_eq (fallbackPower s) { s.frg with
    holdoff := none, recover := none, fallbackCycle := some 0, timedThaw := none, urgency := none }
  unfold enterFallback; dsimp only
  rw [power]
  obtain ⟨flm, flag, hold, index, moved⟩ := moveTo_eq .fallback { s with frg := { s.frg with
    holdoff := none, recover := none, fallbackCycle := some 0, timedThaw := none, urgency := none, power := fallbackPower s,
    heatOn := if fallbackPower s = 0 then false else s.frg.heatOn, heatLeft := left } }
  rw [moved]
  split <;> exact ⟨left, flag, hold, index, rfl⟩

theorem enterFallback_lnc (s : State) :
    (enterFallback s).lnc = if s.frg.state = .intent then (stageEnd s).lnc else s.lnc := by
  unfold enterFallback; dsimp only; split
  · simp [stageEnd, stage]
  · exact moveTo_lnc _ _

theorem enterFallback_assessed (s : State) : IceAssessed s (enterFallback s) := by
  obtain ⟨left, power⟩ := setPower_eq (fallbackPower s) { s.frg with
    holdoff := none, recover := none, fallbackCycle := some 0, timedThaw := none, urgency := none }
  unfold enterFallback; dsimp only; rw [power]; split
  · exact iceAssessed_stageEnd (moveTo_assessed_of _ rfl rfl)
  · exact moveTo_assessed_of _ rfl rfl

/-- The FALLBACK row of R69 on a known outdoor temperature. -/
theorem fallbackPower_of {s : State} {v : Int} (h : s.odr.tOut = some v) :
    fallbackPower s = if s.frg.available = true ∧ v < -50 then 50 else 0 := by
  simp [fallbackPower, h, presentBelow]

theorem enterFallback_enters (s : State) : EntersFallback s (enterFallback s) := by
  obtain ⟨left, flag, hold, index, frost⟩ := enterFallback_frg s
  have line := enterFallback_lnc s
  constructor
  case entered =>
    constructor
    case state => rw [frost]
    case timers => rw [frost]; exact ⟨rfl, rfl, rfl⟩
    case cycle => rw [frost]; exact ⟨rfl, rfl⟩
    case urgency => rw [frost]
    case available => intro _; rw [frost]
    case power => intro v known; rw [frost]; simp [fallbackPower_of known]
    case heat => rw [frost]
    case ice => exact enterFallback_assessed s
  case load => rw [frost]
  case withdrawn => intro intent on; rw [line, if_pos intent]; exact stageEnd_urgent on
  case others => intro other; rw [line, if_neg other]

theorem exhaustBack_leaves {s : State} (h : s.frg.state = .fallback) : LeavesFallback s (exhaustBack s) := by
  rw [exhaustBack, if_pos h]; exact leaveFallback_leaves s

/-- Outside FALLBACK a recovered T_EHA moves nothing of the guard (R83). -/
theorem exhaustBack_of_other {s : State} (h : s.frg.state ≠ .fallback) : exhaustBack s = s := if_neg h

/-- A lost T_EHA takes the guard to FALLBACK, once it has evaluated and outside a thaw (R81). -/
theorem exhaustLost_enters {s : State} (evaluated : s.frg.evaluated = true) (notU : s.frg.state ≠ .thawU)
    (notB : s.frg.state ≠ .thawB) (notFallback : s.frg.state ≠ .fallback) : EntersFallback s (exhaustLost s) := by
  rw [exhaustLost, if_pos (by simp [thawing, evaluated, notU, notB, notFallback])]
  exact enterFallback_enters s

/-- In a thaw and in FALLBACK a lost T_EHA moves nothing of the guard (R81). -/
theorem exhaustLost_of_standing {s : State}
    (h : s.frg.state = .thawU ∨ s.frg.state = .thawB ∨ s.frg.state = .fallback) :
    exhaustLost s = s := by
  rcases h with h | h | h <;> simp [exhaustLost, thawing, h]

/-! ### A sample on a channel's record (R6 to R8, R10) -/

section
variable {r : ChannelRecord}

theorem takeSample_valid_good (h : r.state = .valid) (v : Int) : takeSample (.good v) r = { r with value := some v } := by
  simp [takeSample, sampleOnValid, h]

theorem takeSample_valid_bad (h : r.state = .valid) (reason : Reason) :
    takeSample (.bad reason) r = { r with state := .held, reason := some reason, hold := some 0 } := by
  simp [takeSample, sampleOnValid, h]

theorem takeSample_held_good (h : r.state = .held) (v : Int) :
    takeSample (.good v) r = { r with state := .valid, value := some v, hold := none } := by
  simp [takeSample, sampleOnHeld, h]

theorem takeSample_held_bad (h : r.state = .held) (reason : Reason) :
    takeSample (.bad reason) r = { r with reason := some reason } := by
  simp [takeSample, sampleOnHeld, h]

theorem takeSample_fault_counts (h : r.state = .fault) (v : Int) (few : r.goodRun < 2) :
    takeSample (.good v) r = { r with goodRun := r.goodRun + 1 } := by
  have : ¬ 3 ≤ r.goodRun + 1 := by omega
  simp [takeSample, sampleOnFault, h, this]

theorem takeSample_fault_recovers (h : r.state = .fault) (v : Int) (third : r.goodRun = 2) :
    takeSample (.good v) r = { r with state := .valid, value := some v, goodRun := 0 } := by
  simp [takeSample, sampleOnFault, h, third]

theorem takeSample_fault_bad (h : r.state = .fault) (reason : Reason) :
    takeSample (.bad reason) r = { r with goodRun := 0, reason := some reason } := by
  simp [takeSample, sampleOnFault, h]

/-- A record that stays in FAULT keeps its value (R10). -/
theorem takeSample_fault_value {x : Sample} (h : r.state = .fault) (stays : (takeSample x r).state = .fault) :
    (takeSample x r).value = r.value := by
  cases x with
  | bad reason => rw [takeSample_fault_bad h]
  | good v =>
    simp only [takeSample, h, sampleOnFault] at stays ⊢
    split at stays
    · cases stays
    · rename_i few; rw [if_neg few]

end

/-! ### A conversion's completion -/

/-- A sample's mark on the SENS kind changes the fault set only (R12). -/
theorem markSens_eq (ch : Channel) (x : Sample) (before after : ChannelRecord) (s : State) :
    ∃ srf, markSens ch x before after s = { s with srf := srf } := by
  unfold markSens; split
  · split
    · exact markActive_eq _ s
    · split
      · exact markInactive_eq _ s
      · exact ⟨s.srf, rfl⟩
  · exact ⟨s.srf, rfl⟩

/-- A conversion writes the channel's record and the fault set, and hands the record on. -/
theorem takeConversion_eq (ch : Channel) (x : Sample) (s : State) : ∃ srf, takeConversion ch x s =
    handOver ch (channel s ch) (takeSample x (channel s ch))
      { setChannel s ch (takeSample x (channel s ch)) with srf := srf } := by
  obtain ⟨srf, marked⟩ := markSens_eq ch x (channel s ch) (takeSample x (channel s ch))
    (setChannel s ch (takeSample x (channel s ch)))
  exact ⟨srf, by rw [← marked]; rfl⟩

theorem channel_takeConversion (ch : Channel) (x : Sample) (s : State) :
    channel (takeConversion ch x s) ch = takeSample x (channel s ch) := by
  obtain ⟨srf, taken⟩ := takeConversion_eq ch x s
  rw [taken, channel_of_msc (handOver_msc _ _ _ _)]
  exact channel_setChannel s ch _

/-- The readers leave the SENS kind as the scanner has marked it. -/
theorem faultRecord_takeConversion (ch : Channel) (x : Sample) (s : State) (k : FaultKind) :
    faultRecord (takeConversion ch x s) k = faultRecord (markSens ch x (channel s ch) (takeSample x (channel s ch))
      (setChannel s ch (takeSample x (channel s ch)))) k :=
  faultRecord_of_srf (handOver_srf _ _ _ _) k

/-- Outside FAULT a sample leaves the fault set alone (R7). -/
theorem takeConversion_sens_left {ch : Channel} (x : Sample) {s : State} (h : (channel s ch).state ≠ .fault)
    (k : FaultKind) : faultRecord (takeConversion ch x s) k = faultRecord s k := by
  rw [faultRecord_takeConversion, markSens, if_neg h]; rfl

/-- A bad sample on a channel in FAULT declares it (R10). -/
theorem takeConversion_sens_active {ch : Channel} (reason : Reason) {s : State} (h : (channel s ch).state = .fault) :
    (faultRecord (takeConversion ch (.bad reason) s) (.sens ch)).active = true := by
  rw [faultRecord_takeConversion, markSens, if_pos h]; exact markActive_active _ _

/-- The third good sample in FAULT takes the declaration back (R10). -/
theorem takeConversion_sens_inactive {ch : Channel} (v : Int) {s : State} (h : (channel s ch).state = .fault)
    (third : (channel s ch).goodRun = 2) :
    (faultRecord (takeConversion ch (.good v) s) (.sens ch)).active = false := by
  rw [faultRecord_takeConversion, takeSample_fault_recovers h v third, markSens, if_pos h]
  exact markInactive_inactive _ _

/-- A conversion that leaves a channel in FAULT is handed to no reader (R11). -/
theorem takeConversion_of_fault_stays {ch : Channel} {x : Sample} {s : State} (h : (channel s ch).state = .fault)
    (stays : (takeSample x (channel s ch)).state = .fault) :
    (takeConversion ch x s).frg = s.frg ∧ (takeConversion ch x s).odr = s.odr := by
  obtain ⟨srf, taken⟩ := takeConversion_eq ch x s
  rw [taken, handOver_of_unchanged _ _ (stays.trans h.symm) (takeSample_fault_value h stays)]
  exact ⟨rfl, rfl⟩

/-- T_EHA's third good sample in FAULT is told to the frost guard, with the guard and the line as they were (R83). -/
theorem takeConversion_exhaust_back {s : State} (v : Int) (h : (channel s .tEha).state = .fault)
    (third : (channel s .tEha).goodRun = 2) :
    ∃ told, told.frg = s.frg ∧ told.lnc = s.lnc ∧ takeConversion .tEha (.good v) s = exhaustBack told := by
  obtain ⟨srf, taken⟩ := takeConversion_eq .tEha (.good v) s
  have valid : (takeSample (.good v) (channel s .tEha)).state = .valid := by rw [takeSample_fault_recovers h v third]
  have other : (channel s .tEha).state ≠ .valid := by simp [h]
  refine ⟨_, ?_, ?_, taken.trans (handOver_exhaust_valid _ valid other)⟩ <;> rfl

theorem takeConversion_leavesFallback {s : State} (v : Int) (h : (channel s .tEha).state = .fault)
    (third : (channel s .tEha).goodRun = 2) (fallback : s.frg.state = .fallback) :
    LeavesFallback s (takeConversion .tEha (.good v) s) := by
  obtain ⟨told, frg, lnc, taken⟩ := takeConversion_exhaust_back v h third
  rw [taken]
  exact leavesFallback_congr (exhaustBack_leaves (frg ▸ fallback)) frg.symm lnc.symm rfl rfl rfl rfl

theorem takeConversion_outside_fallback {s : State} (v : Int) (h : (channel s .tEha).state = .fault)
    (third : (channel s .tEha).goodRun = 2) (other : s.frg.state ≠ .fallback) :
    (takeConversion .tEha (.good v) s).frg = s.frg := by
  obtain ⟨told, frg, lnc, taken⟩ := takeConversion_exhaust_back v h third
  rw [taken, exhaustBack_of_other (frg ▸ other), frg]

/-- A changed record of T_ODA or RH_ODA works the effective outdoor values out again (R151, R152). -/
theorem takeConversion_outdoor {ch : Channel} {x : Sample} {s : State} (outdoor : ch = .tOda ∨ ch = .rhOda)
    (served : inService s = true) (changed : (takeSample x (channel s ch)).state ≠ (channel s ch).state ∨
      (takeSample x (channel s ch)).value ≠ (channel s ch).value) : OutdoorInEffect (takeConversion ch x s) := by
  obtain ⟨srf, taken⟩ := takeConversion_eq ch x s
  rw [taken, handOver_outdoor outdoor (by exact served) changed]
  exact updateEffective_inEffect _

/-- CONVERSION_COMPLETE in a part that has supply. -/
theorem exec_conversionComplete {s : State} (h : s.powered = true) (ch : Channel) (raw : BitVec 12) :
    exec (.conversionComplete ch raw) s = .next (refreshLamps (takeConversion ch (sampleOf ch raw) s)) :=
  whenPowered_of _ s h

/-! ### The expiry of a hold (R9) -/

/-- The hold's expiry leaves the same record whatever has run of the hold. -/
theorem holdExpired_passTime (d : Nat) (s : State) (ch : Channel) :
    holdExpired (channel (passTime d s) ch) = holdExpired (channel s ch) := by rw [passTime_channel]; split <;> rfl

section
variable {s : State} {ch : Channel}

/-- The hold of a HELD channel expires: the record goes to FAULT, its SENS kind is declared, and its readers are told. -/
theorem expireHold_of_held (held : (channel s ch).state = .held) : expireHold ch s =
    handOver ch (channel s ch) (holdExpired (channel s ch))
      (markActive (.sens ch) (setChannel s ch (holdExpired (channel s ch)))) := if_pos held

theorem channel_expireHold (held : (channel s ch).state = .held) :
    channel (expireHold ch s) ch = holdExpired (channel s ch) := by
  rw [expireHold_of_held held, channel_of_msc (handOver_msc _ _ _ _), channel_of_msc (markActive_kept _ _).msc]
  exact channel_setChannel s ch _

theorem expireHold_sens_active (held : (channel s ch).state = .held) :
    (faultRecord (expireHold ch s) (.sens ch)).active = true := by
  rw [expireHold_of_held held, faultRecord_of_srf (handOver_srf _ _ _ _)]
  exact markActive_active _ _

theorem expireHold_uptime (held : (channel s ch).state = .held) : (expireHold ch s).uptime = s.uptime := by
  rw [expireHold_of_held held, handOver_uptime, (markActive_kept _ _).uptime]; rfl

theorem expireHold_outdoor (held : (channel s ch).state = .held) (outdoor : ch = .tOda ∨ ch = .rhOda)
    (served : inService s = true) : OutdoorInEffect (expireHold ch s) := by
  have changed : (holdExpired (channel s ch)).state ≠ (channel s ch).state := by rw [held]; simp [holdExpired]
  have still : inService (markActive (.sens ch) (setChannel s ch (holdExpired (channel s ch)))) = true :=
    (markActive_kept _ _).inService.trans served
  rw [expireHold_of_held held, handOver_outdoor outdoor still (.inl changed)]
  exact updateEffective_inEffect _

/-- The expiry of T_EHA's hold is told to the frost guard, with the guard, the outdoor values and the line as they were
(R81). -/
theorem expireHold_exhaust (held : (channel s .tEha).state = .held) : ∃ told, told.frg = s.frg ∧ told.odr = s.odr ∧
    told.lnc = s.lnc ∧ expireHold .tEha s = exhaustLost told := by
  have other : (channel s .tEha).state ≠ .fault := by simp [held]
  obtain ⟨srf, marked⟩ := markActive_eq (.sens .tEha) (setChannel s .tEha (holdExpired (channel s .tEha)))
  rw [expireHold_of_held held, handOver_exhaust_fault _ rfl other, marked]
  refine ⟨_, ?_, ?_, ?_, rfl⟩ <;> rfl

theorem expireHold_entersFallback (held : (channel s .tEha).state = .held) (evaluated : s.frg.evaluated = true)
    (notU : s.frg.state ≠ .thawU) (notB : s.frg.state ≠ .thawB) (notFallback : s.frg.state ≠ .fallback) :
    EntersFallback s (expireHold .tEha s) := by
  obtain ⟨told, frg, odr, lnc, expired⟩ := expireHold_exhaust held
  rw [← frg] at evaluated notU notB notFallback
  rw [expired]
  exact entersFallback_congr (exhaustLost_enters evaluated notU notB notFallback) frg.symm odr.symm lnc.symm rfl rfl rfl rfl

theorem expireHold_frg_of_standing (held : (channel s .tEha).state = .held)
    (standing : s.frg.state = .thawU ∨ s.frg.state = .thawB ∨ s.frg.state = .fallback) :
    (expireHold .tEha s).frg = s.frg := by
  obtain ⟨told, frg, odr, lnc, expired⟩ := expireHold_exhaust held
  rw [← frg] at standing
  rw [expired, exhaustLost_of_standing standing, frg]

/-- HOLD_TIMER_EXPIRY in a part that has supply: time up to the hold's end, then the expiry (log 2). -/
theorem exec_holdTimerExpiry (h : s.powered = true) {e : Nat} (running : (channel s ch).hold = some e) :
    exec (.holdTimerExpiry ch) s = .next (refreshLamps (expireHold ch (passTime (seconds 30 - e) s))) := by
  have taken : exec (.holdTimerExpiry ch) s =
    .next (refreshLamps (atLimit channelHold (channel s ch).hold (expireHold ch) s)) := whenPowered_of _ s h
  rw [taken, running, atLimit_some]; rfl

end

/-! ### Tachometers (R13, R14) -/

section
variable {f : Fan} {high low : Nat} {m : Scanner}

/-- A low level that lasts is a falling edge where the input's level was high (R13). -/
theorem countPulse_of_long (h : 100 ≤ low) : countPulse f high low m = { m with
    pulses := if m.tachHigh.get f || decide (100 ≤ high) then m.pulses.set f (m.pulses.get f + 1) else m.pulses
    tachHigh := m.tachHigh.set f false } := if_pos h

/-- A low level that is too short is ignored; the high level before it is not (R13). -/
theorem countPulse_of_short (h : low < 100) : countPulse f high low m =
    { m with tachHigh := m.tachHigh.set f (m.tachHigh.get f || decide (100 ≤ high)) } :=
  if_neg (Nat.not_le.2 h)

theorem countPulse_counts (h : 100 ≤ low) (rose : 100 ≤ high ∨ m.tachHigh.get f = true) :
    (countPulse f high low m).pulses = m.pulses.set f (m.pulses.get f + 1) := by
  rw [countPulse_of_long h]
  exact if_pos (by rcases rose with rose | rose <;> simp [rose])

theorem countPulse_ignores (h : 100 ≤ low) (glitch : high < 100) (stayed : m.tachHigh.get f = false) :
    (countPulse f high low m).pulses = m.pulses := by
  rw [countPulse_of_long h]
  exact if_neg (by simp [glitch, stayed])

end

/-- A completed scan converts both windows (R14). -/
theorem completeScan_measured (s : State) (f : Fan) :
    (fan (completeScan s) f).measured = min 4000 (s.msc.pulses.get f * 30) := by
  have speed : (fan (completeScan s) f).measured = pulseSpeed (s.msc.pulses.get f) := by
    simp only [completeScan, fan, refreshAvailability_fdr]; cases f <;> rfl
  rw [speed, pulseSpeed, Nat.mul_comm]

/-- A completed scan starts new windows (R13). -/
theorem completeScan_msc (s : State) : (completeScan s).msc = { s.msc with pulses := ⟨0, 0⟩, timer := 0 } :=
  (refreshAvailability_kept _).msc

theorem completeScan_uptime (s : State) : (completeScan s).uptime = s.uptime := (refreshAvailability_kept _).uptime

/-- TACH_EDGE in a part that has supply. -/
theorem exec_tachEdge {s : State} (h : s.powered = true) (f : Fan) (high low : Nat) : exec (.tachEdge f high low) s =
    .next (refreshLamps { s with msc := countPulse f high low s.msc }) :=
  whenPowered_of (fun s => { s with msc := countPulse f high low s.msc }) s h

/-- SCAN_COMPLETION in a part that has supply: time up to the scan's end, then its completion (log 2). -/
theorem exec_scanCompletion {s : State} (h : s.powered = true) :
    exec .scanCompletion s = .next (refreshLamps (completeScan (passTime (seconds 1 - s.msc.timer) s))) :=
  whenPowered_of _ s h

/-! ### The records held by index, at reset -/

theorem channel_reset (ch : Channel) : channel State.reset ch = ChannelRecord.atPowerOn := by
  simp [channel, State.reset, Scanner.atPowerOn]

theorem fan_reset (f : Fan) : fan State.reset f = FanRecord.atPowerOn := by cases f <;> rfl

theorem filterRecord_reset (f : Fan) : filterRecord State.reset f = FilterRecord.atPowerOn := by cases f <;> rfl

theorem faultRecord_reset (k : FaultKind) : faultRecord State.reset k = FaultRecord.atPowerOn := by
  simp [faultRecord, State.reset, Service.atPowerOn]

theorem ring_reset (i : Fin 16) : State.reset.hev.ring[i] = none := by
  simp [State.reset, Humidity.atPowerOn]

theorem counters_reset (i : Fin 4) : State.reset.hev.counters[i] = 0 := by
  simp [State.reset, Humidity.atPowerOn]

end Sys2Proof.Machine
end

section
/-! The statements of the measurement scanner and of reset. -/

open Sys2Proof.Machine Sys2Proof.Safety

/-- Settles O3: the records held by index have lemmas of their own, and every other value stands in the power-on state. -/
theorem resetValuesOfEveryBlock : Obligations.ResetValuesOfEveryBlock := by
  unfold Obligations.ResetValuesOfEveryBlock
  -- the clock and the queue; the scanner and the fan drive
  refine ⟨rfl, rfl, channel_reset, rfl, fan_reset, ?_⟩
  -- the mode stack
  refine ⟨rfl, rfl, rfl, rfl, rfl, rfl, rfl, rfl, rfl, rfl, rfl, rfl, rfl, rfl, rfl, ?_⟩
  -- the frost guard
  refine ⟨rfl, rfl, rfl, rfl, rfl, rfl, rfl, rfl, rfl, rfl, rfl, rfl, rfl, rfl, rfl, rfl, rfl, rfl, rfl, ?_⟩
  -- the filter monitor and the humidity evaluator
  refine ⟨filterRecord_reset, rfl, rfl, rfl, ring_reset, rfl, rfl, rfl, rfl, counters_reset, rfl, rfl, rfl, ?_⟩
  -- the line controller
  refine ⟨rfl, rfl, rfl, rfl, rfl, rfl, rfl, rfl, rfl, ⟨rfl, rfl, rfl⟩, rfl, rfl, ?_⟩
  -- the peer table and the outdoor resolver; the memory port and the level on the line
  refine ⟨rfl, rfl, rfl, rfl, rfl, rfl, rfl, rfl, rfl, rfl, rfl, rfl, rfl, rfl, rfl, rfl, ?_⟩
  -- the fault set and the lamps
  exact ⟨faultRecord_reset, rfl, rfl, rfl⟩

/-- Settles O7. -/
theorem goodSampleOnValidReplacesTheValue : Obligations.GoodSampleOnValidReplacesTheValue := by
  unfold Obligations.GoodSampleOnValidReplacesTheValue
  intro s ch raw v on valid good
  refine ⟨_, exec_conversionComplete on ch raw, ?_⟩
  rw [channel_refreshLamps, channel_takeConversion, good, takeSample_valid_good valid]

/-- Settles O8: the bands of the raw readings by the class of the input, and then the channel's record, its SENS kind and its
readers after a conversion, each by the rule of the state the channel is in. -/
theorem samplesMoveTheChannelRecord : Obligations.SamplesMoveTheChannelRecord := by
  unfold Obligations.SamplesMoveTheChannelRecord
  refine ⟨?_, fun s ch raw on => ⟨_, exec_conversionComplete on ch raw, ?_⟩⟩
  · rintro ch raw n rfl
    refine ⟨?_, ?_, ?_⟩
    · rintro (rfl | rfl | rfl | rfl) <;> exact classify_temperature raw.toNat
    · rintro (rfl | rfl) <;> exact classify_humidity raw.toNat
    · rintro (rfl | rfl) <;> exact classify_pressure raw.toNat
  · simp only [channel_refreshLamps, channel_takeConversion, faultRecord_refreshLamps, refreshLamps_frg, refreshLamps_odr]
    refine ⟨?_, ?_, ?_, ?_, ?_, ?_, ?_, ?_, ?_⟩
    · intro reason valid bad
      rw [bad]
      exact ⟨takeSample_valid_bad valid reason, takeConversion_sens_left _ (by simp [valid]) _⟩
    · intro v held good; rw [good]; exact takeSample_held_good held v
    · intro reason held bad; rw [bad]; exact takeSample_held_bad held reason
    · intro v fault good few; rw [good]; exact takeSample_fault_counts fault v few
    · intro v fault good third
      rw [good]
      exact ⟨takeSample_fault_recovers fault v third, takeConversion_sens_inactive v fault third⟩
    · intro reason fault bad
      rw [bad]
      exact ⟨takeSample_fault_bad fault reason, takeConversion_sens_active reason fault⟩
    · intro v exhaust fault good third
      subst exhaust
      rw [good]
      exact ⟨fun fallback => leavesFallback_refreshLamps (takeConversion_leavesFallback v fault third fallback),
        takeConversion_outside_fallback v fault third⟩
    · exact takeConversion_of_fault_stays
    · intro outdoor served changed
      exact outdoorInEffect_refreshLamps (takeConversion_outdoor outdoor served changed)

/-- Settles O9: the state at the hold's end, and then the expiry on it. -/
theorem holdExpiryTakesTheChannelToFault : Obligations.HoldExpiryTakesTheChannelToFault := by
  unfold Obligations.HoldExpiryTakesTheChannelToFault
  intro s ch e on held running
  have heldThen : (channel (passTime (seconds 30 - e) s) ch).state = .held := by simpa using held
  refine ⟨_, exec_holdTimerExpiry on running, ?_, ?_, ?_, ?_, ?_, ?_⟩
  · rw [refreshLamps_uptime, expireHold_uptime heldThen, passTime_uptime on]
  · rw [channel_refreshLamps, channel_expireHold heldThen, holdExpired_passTime]; rfl
  · rw [faultRecord_refreshLamps]; exact expireHold_sens_active heldThen
  · intro exhaust evaluated notU notB notFallback
    subst exhaust
    exact entersFallback_refreshLamps (expireHold_entersFallback heldThen (by simpa using evaluated) (by simpa using notU)
      (by simpa using notB) (by simpa using notFallback))
  · intro exhaust standing
    subst exhaust
    rw [refreshLamps_frg]
    exact expireHold_frg_of_standing heldThen (by simpa using standing)
  · intro outdoor served
    exact outdoorInEffect_refreshLamps (expireHold_outdoor heldThen outdoor (by simpa using served))

/-- Settles O10: an edge by the lengths of the levels around it, and then the end of the window. -/
theorem tachometerWindowsAreCountedAndConverted : Obligations.TachometerWindowsAreCountedAndConverted := by
  unfold Obligations.TachometerWindowsAreCountedAndConverted
  intro s on
  refine ⟨fun f high low => ⟨_, exec_tachEdge on f high low, ?_⟩, _, exec_scanCompletion on, ?_⟩
  · simp only [refreshLamps_fdr, refreshLamps_msc, true_and]
    refine ⟨countPulse_counts, countPulse_ignores, fun long => ?_, fun short => ?_⟩
    · rw [countPulse_of_long long]
    · rw [countPulse_of_short short]; exact ⟨rfl, rfl⟩
  · refine ⟨?_, fun f => ?_, ?_, ?_⟩
    · rw [refreshLamps_uptime, completeScan_uptime, passTime_uptime on]
    · rw [fan_of_fdr (refreshLamps_fdr _), completeScan_measured, passTime_pulses]
    · rw [refreshLamps_msc, completeScan_msc]
    · rw [refreshLamps_msc, completeScan_msc]

end

section
/-! SUPPORT. The entries of the mode stack and its law (R42, R43): where an entry is placed, and what the operations of
chapter 3 leave of the law. -/

namespace Sys2Proof.Machine
open Sys2Proof.Safety

/-! ### Entries and their origins -/

/-- The origins of the entries above BASE, from the top. -/
def origins (m : ModeStack) : List Origin := m.above.map ModeEntry.origin

theorem hasEntry_iff {m : ModeStack} {o : Origin} : hasEntry m o = true ↔ o ∈ origins m := by
  simp [hasEntry, origins]

theorem ordered_iff (l : List ModeEntry) :
    ordered l ↔ (l.map ModeEntry.origin).Pairwise fun a b => priority b ≤ priority a := by
  induction l with
  | nil => simp [ordered]
  | cons e rest ih => simp [ordered, ih]

/-- An entry is placed directly above every entry of lower or equal priority and directly below every other (R43). -/
theorem place_splits (e : ModeEntry) {l : List ModeEntry} (h : ordered l) : ∃ above below, l = above ++ below ∧
    place e l = above ++ e :: below ∧ (∀ x ∈ above, priority e.origin < priority x.origin) ∧
    ∀ x ∈ below, priority x.origin ≤ priority e.origin := by
  induction l with
  | nil => exact ⟨[], [], rfl, rfl, by simp, by simp⟩
  | cons x rest ih =>
    obtain ⟨top, restOrdered⟩ := h
    by_cases higher : priority e.origin < priority x.origin
    · obtain ⟨above, below, split, placed, up, down⟩ := ih restOrdered
      exact ⟨x :: above, below, by simp [split], by simp [place, higher, placed], by simpa using ⟨higher, up⟩, down⟩
    · refine ⟨[], x :: rest, rfl, by simp [place, higher], by simp, ?_⟩
      have lower : priority x.origin ≤ priority e.origin := Nat.le_of_not_lt higher
      exact List.forall_mem_cons.2 ⟨lower, fun y mem => Nat.le_trans (top y mem) lower⟩

theorem place_placesByPriority : PlacesByPriority :=
  ⟨⟨rfl, rfl, rfl, rfl, rfl, rfl⟩, fun e _ h => place_splits e h⟩

/-- COMBUSTION alone has the highest priority, so its entry goes on top (R50). -/
theorem place_of_combustion {e : ModeEntry} (h : e.origin = .combustion) (l : List ModeEntry) : place e l = e :: l := by
  cases l with
  | nil => rfl
  | cons x rest =>
    have top : ¬ priority e.origin < priority x.origin := by rw [h]; cases x.origin <;> decide
    exact if_neg top

theorem insertEntry_of_has {m : ModeStack} {o : Origin} (h : hasEntry m o = true) (p : Params) : insertEntry p o m = m :=
  if_pos h

/-- The entry that an insertion places (R42). -/
def newEntry (p : Params) (o : Origin) (m : ModeStack) : ModeEntry := ⟨o, originLevel p o, originTime p o, m.counter⟩

theorem insertEntry_of_absent {m : ModeStack} {o : Origin} (h : hasEntry m o = false) (p : Params) :
    insertEntry p o m = { m with above := place (newEntry p o m) m.above, counter := m.counter + 1 } := by
  simp [insertEntry, newEntry, h]

theorem place_perm (e : ModeEntry) (l : List ModeEntry) : (place e l).Perm (e :: l) := by
  induction l with
  | nil => exact .refl _
  | cons x rest ih =>
    unfold place; split
    · exact (ih.cons x).trans (.swap e x rest)
    · exact .refl _

theorem insertEntry_perm {m : ModeStack} {o : Origin} (h : hasEntry m o = false) (p : Params) :
    (insertEntry p o m).above.Perm (newEntry p o m :: m.above) := by
  rw [insertEntry_of_absent h]; exact place_perm _ _

/-- After an insertion its origin has an entry, and the others have one where they had one before. -/
theorem hasEntry_insertEntry (p : Params) (o : Origin) (m : ModeStack) (other : Origin) :
    hasEntry (insertEntry p o m) other = true ↔ other = o ∨ hasEntry m other = true := by
  cases present : hasEntry m o with
  | true =>
    rw [insertEntry_of_has present]
    exact ⟨.inr, fun h => h.elim (fun same => same ▸ present) id⟩
  | false =>
    rw [hasEntry_iff, hasEntry_iff, origins, ((insertEntry_perm present p).map _).mem_iff]
    simp [origins, newEntry]

/-- Placement keeps the order of the stack (R43). -/
theorem ordered_place (e : ModeEntry) {l : List ModeEntry} (h : ordered l) : ordered (place e l) := by
  obtain ⟨above, below, split, placed, up, down⟩ := place_splits e h
  have old := (ordered_iff _).1 h
  rw [split, List.map_append, List.pairwise_append] at old
  obtain ⟨oldAbove, oldBelow, across⟩ := old
  rw [ordered_iff, placed, List.map_append, List.map_cons]
  refine List.pairwise_append.2 ⟨oldAbove, List.pairwise_cons.2 ⟨by simpa using down, oldBelow⟩, fun a memA b memB => ?_⟩
  rcases List.mem_cons.1 memB with rfl | memB
  · obtain ⟨x, mem, rfl⟩ := List.mem_map.1 memA
    exact Nat.le_of_lt (up x mem)
  · exact across a memA b memB

/-- The other origins keep their entries at a withdrawal, and the withdrawn one has none. -/
theorem hasEntry_withdraw (m : ModeStack) (o other : Origin) :
    hasEntry (withdraw o m) other = (hasEntry m other && other != o) := by
  rw [Bool.eq_iff_iff]
  simp only [hasEntry, withdraw, List.any_filter, List.any_eq_true, Bool.and_eq_true, beq_iff_eq, bne_iff_ne]
  constructor
  · rintro ⟨e, mem, kept, rfl⟩; exact ⟨⟨e, mem, rfl⟩, kept⟩
  · rintro ⟨⟨e, mem, rfl⟩, kept⟩; exact ⟨e, mem, kept, rfl⟩

theorem origins_withdraw_sublist (o : Origin) (m : ModeStack) : (origins (withdraw o m)).Sublist (origins m) :=
  List.filter_sublist.map _

/-- An update in place keeps every entry's origin (R42). -/
theorem origins_setRemaining (o : Origin) (time : Option Nat) (m : ModeStack) :
    origins (setRemaining o time m) = origins m := by
  simp only [origins, setRemaining, List.map_map]
  exact List.map_congr_left fun e _ => by simp only [Function.comp]; split <;> rfl

theorem origins_countTop (m : ModeStack) : origins (countTop m) = origins m := by
  unfold countTop; split <;> simp [origins, *]

/-! ### The stack's law (R43) -/

/-- The law is kept where entries leave the stack and no other changes its origin. -/
theorem stackLaw_of_sublist {m t : ModeStack} (h : StackLaw m) (base : t.base.origin = m.base.origin)
    (sub : (origins t).Sublist (origins m)) : StackLaw t where
  base := base.trans h.base
  above := fun e mem => by
    obtain ⟨x, old, same⟩ := List.mem_map.1 (sub.subset (List.mem_map_of_mem mem))
    exact same ▸ h.above x old
  once := h.once.sublist sub
  exclusive := fun ⟨boost, dry⟩ => h.exclusive
    ⟨hasEntry_iff.2 (sub.subset (hasEntry_iff.1 boost)), hasEntry_iff.2 (sub.subset (hasEntry_iff.1 dry))⟩
  sorted := (ordered_iff _).2 (((ordered_iff _).1 h.sorted).sublist sub)

theorem stackLaw_of_origins {m t : ModeStack} (h : StackLaw m) (base : t.base.origin = m.base.origin)
    (same : origins t = origins m) : StackLaw t := stackLaw_of_sublist h base (same ▸ List.Sublist.refl _)

theorem stackLaw_withdraw {m : ModeStack} (h : StackLaw m) (o : Origin) : StackLaw (withdraw o m) :=
  stackLaw_of_sublist h rfl (origins_withdraw_sublist o m)

theorem stackLaw_setRemaining {m : ModeStack} (h : StackLaw m) (o : Origin) (time : Option Nat) :
    StackLaw (setRemaining o time m) := stackLaw_of_origins h rfl (origins_setRemaining o time m)

/-- An insertion keeps the law, where neither humidity entry is inserted beside the other. -/
theorem stackLaw_insertEntry {m : ModeStack} (h : StackLaw m) (p : Params) {o : Origin} (notBase : o ≠ .base)
    (boost : o = .humBoost → hasEntry m .humDry = false) (dry : o = .humDry → hasEntry m .humBoost = false) :
    StackLaw (insertEntry p o m) := by
  cases present : hasEntry m o with
  | true => rw [insertEntry_of_has present]; exact h
  | false =>
    have perm := insertEntry_perm present p
    constructor
    case base => rw [insertEntry_of_absent present]; exact h.base
    case above =>
      intro e mem
      rcases List.mem_cons.1 (perm.mem_iff.1 mem) with rfl | old
      · exact notBase
      · exact h.above e old
    case once =>
      have fresh : o ∉ origins m := fun mem => by simp [hasEntry_iff.2 mem] at present
      exact (perm.map _).nodup_iff.2 (List.nodup_cons.2 ⟨fresh, h.once⟩)
    case exclusive =>
      rw [hasEntry_insertEntry, hasEntry_insertEntry]
      rintro ⟨same | boosting, same' | drying⟩
      · exact absurd (same.trans same'.symm) (by decide)
      · simp [boost same.symm] at drying
      · simp [dry same'.symm] at boosting
      · exact h.exclusive ⟨boosting, drying⟩
    case sorted => rw [insertEntry_of_absent present]; exact ordered_place _ h.sorted

/-- At most four of the five origins other than BASE stand together: HUM_BOOST and HUM_DRY exclude each other (R43). -/
theorem stackLaw_length {m : ModeStack} (h : StackLaw m) : m.above.length ≤ 4 := by
  have size : m.above.length = (origins m).length := (List.length_map _).symm
  have within : ∀ excluded : Origin, excluded ∉ origins m →
      origins m ⊆ [.away, .humDry, .humBoost, .button, .combustion].filter (· != excluded) := by
    intro excluded out o mem
    have other : o ≠ excluded := fun same => out (same ▸ mem)
    have notBase : o ≠ .base := by
      obtain ⟨e, old, same⟩ := List.mem_map.1 mem
      exact same ▸ h.above e old
    refine List.mem_filter.2 ⟨?_, bne_iff_ne.2 other⟩
    cases o with
    | base => exact absurd rfl notBase
    | _ => decide
  rw [size]
  by_cases boost : Origin.humBoost ∈ origins m
  · have dry : Origin.humDry ∉ origins m := fun dry => h.exclusive ⟨hasEntry_iff.2 boost, hasEntry_iff.2 dry⟩
    exact h.once.length_le_of_subset (within _ dry)
  · exact h.once.length_le_of_subset (within _ boost)

/-! ### What the mode stack's operations leave of the law -/

theorem stackLaw_pass {m : ModeStack} (h : StackLaw m) (d : Nat) : StackLaw (m.pass d) := stackLaw_of_origins h rfl rfl

theorem stackLaw_atPowerOn (boost away combustion : Bool) : StackLaw (ModeStack.atPowerOn boost away combustion) where
  base := rfl
  above := by simp [ModeStack.atPowerOn]
  once := List.nodup_nil
  exclusive := by simp [ModeStack.atPowerOn, hasEntry]
  sorted := trivial

theorem stackLaw_press {m : ModeStack} (h : StackLaw m) (p : Params) : StackLaw (press p m) := by
  unfold press; split
  · exact stackLaw_withdraw h _
  · split
    · exact stackLaw_setRemaining h _ _
    · exact stackLaw_insertEntry h p (by simp) (by simp) (by simp)

/-- HUM_DRY takes the place of a HUM_BOOST whose run-on has ended (R53). -/
theorem stackLaw_endRunOn {m : ModeStack} (h : StackLaw m) (p : Params) : StackLaw (endRunOn p m) := by
  unfold endRunOn; split
  · exact stackLaw_insertEntry (stackLaw_withdraw h _) p (by simp) (by simp) (by simp [hasEntry_withdraw])
  · exact stackLaw_withdraw h _

theorem stackLaw_expireTop {m : ModeStack} (h : StackLaw m) (p : Params) : StackLaw (expireTop p m) := by
  unfold expireTop; split
  · split
    · exact stackLaw_endRunOn h p
    · exact stackLaw_withdraw h _
  · exact h

theorem stackLaw_countTop {m : ModeStack} (h : StackLaw m) : StackLaw (countTop m) :=
  stackLaw_of_origins h (by unfold countTop; split <;> rfl) (origins_countTop m)

theorem stackLaw_tick {s : State} (h : StackLaw s.mst) : StackLaw (tick s).mst :=
  stackLaw_of_origins (stackLaw_expireTop (stackLaw_countTop h) s.params) rfl rfl

/-- The AWAY contact taken as it stands (R49). -/
theorem stackLaw_takeAway {s : State} (h : StackLaw s.mst) : StackLaw (takeAway s).mst := by
  rw [takeAway, setStack_mst]; split
  · exact stackLaw_insertEntry h _ (by simp) (by simp) (by simp)
  · exact stackLaw_withdraw h _

/-- Whatever a COMBUSTION entry's appearance asks of the other blocks, the stack takes the entry and nothing else (R50). -/
theorem insertCombustion_mst (s : State) : (insertCombustion s).mst = insertEntry s.params .combustion s.mst := by
  rw [(insertCombustion_kept s).mst, setStack_mst, combustionStack]
  split
  · next present => exact (insertEntry_of_has present _).symm
  · rfl

/-- The COMBUSTION contact taken as it stands (R50). -/
theorem stackLaw_takeCombustion {s : State} (h : StackLaw s.mst) : StackLaw (takeCombustion s).mst := by
  unfold takeCombustion; split
  · rw [insertCombustion_mst]
    exact stackLaw_insertEntry h _ (by simp) (by simp) (by simp)
  · exact stackLaw_withdraw h _

theorem stackLaw_boostDebounced {s : State} (h : StackLaw s.mst) : StackLaw (boostDebounced s).mst := by
  have settled : StackLaw { s.mst with boost := { s.mst.boost.settle with heldAtStart := false } } :=
    stackLaw_of_origins h rfl rfl
  unfold boostDebounced; dsimp only; split
  · exact stackLaw_press settled s.params
  · exact settled

theorem stackLaw_awayDebounced {s : State} (h : StackLaw s.mst) : StackLaw (awayDebounced s).mst := by
  have settled : StackLaw { s.mst with away := s.mst.away.settle } := stackLaw_of_origins h rfl rfl
  unfold awayDebounced; dsimp only; split
  · exact stackLaw_takeAway settled
  · exact settled

theorem stackLaw_combustionDebounced {s : State} (h : StackLaw s.mst) : StackLaw (combustionDebounced s).mst := by
  have settled : StackLaw { s.mst with combustion := s.mst.combustion.settle } := stackLaw_of_origins h rfl rfl
  unfold combustionDebounced; dsimp only; split
  · exact stackLaw_takeCombustion settled
  · exact settled

theorem stackLaw_setPin {s : State} (h : StackLaw s.mst) (pin : InputPin) (high : Bool) :
    StackLaw (setPin pin high s).mst := by
  cases pin <;> exact stackLaw_of_origins h rfl rfl

theorem stackLaw_evaluateClimate {s : State} (h : StackLaw s.mst) : StackLaw (evaluateClimate s).mst :=
  stackLaw_of_origins h rfl rfl

/-- The boost request's change (R51, R52): HUM_BOOST comes in for HUM_DRY, or has its remaining time updated. -/
theorem stackLaw_takeBoost {m : ModeStack} (h : StackLaw m) (p : Params) (before now : Bool) :
    StackLaw (takeBoost p before now m) := by
  have copied : ∀ b, StackLaw { m with boostCopy := b } := fun _ => stackLaw_of_origins h rfl rfl
  unfold takeBoost boostAsserted boostDeasserted; dsimp only; split
  · exact h
  · split
    · split
      · exact stackLaw_setRemaining (copied true) _ _
      · exact stackLaw_insertEntry (stackLaw_withdraw (copied true) _) p (by simp) (by simp [hasEntry_withdraw]) (by simp)
    · exact stackLaw_setRemaining (copied false) _ _

/-- The dry request's change (R53): HUM_DRY comes in only where no HUM_BOOST stands. -/
theorem stackLaw_takeDry {m : ModeStack} (h : StackLaw m) (p : Params) (before now : Bool) :
    StackLaw (takeDry p before now m) := by
  have copied : ∀ b, StackLaw { m with dryCopy := b } := fun _ => stackLaw_of_origins h rfl rfl
  unfold takeDry dryAsserted dryDeasserted; dsimp only; split
  · exact h
  · split
    · split
      · exact copied true
      · next allowed =>
          rw [Bool.or_eq_true, not_or, Bool.not_eq_true, Bool.not_eq_true] at allowed
          exact stackLaw_insertEntry (copied true) p (by simp) (by simp) (fun _ => allowed.2)
    · exact stackLaw_withdraw (copied false) _

theorem stackLaw_humidityEvaluate {s : State} (h : StackLaw s.mst) : StackLaw (humidityEvaluate s).mst :=
  stackLaw_takeDry (stackLaw_takeBoost h _ _ _) _ _ _

/-- The stack's take-up at the completion of the start load (R59): BASE keeps its origin. -/
theorem stackLaw_takeUpStack {s : State} (h : StackLaw s.mst) : StackLaw (takeUpStack s).mst := by
  have configured : StackLaw { s.mst with
      base := { s.mst.base with level := s.params.baseLevel }
      countdown := some 0
      boost := s.mst.boost.atStart } := stackLaw_of_origins h rfl rfl
  refine stackLaw_takeCombustion (stackLaw_takeAway ?_)
  exact configured

theorem stackLaw_takeUpFlows {s : State} (h : StackLaw s.mst) (order : StartOrder) :
    StackLaw (takeUpFlows order s).mst := by
  cases order with
  | fanFirst =>
    refine stackLaw_takeUpStack ?_
    rw [(fanEvaluate_kept s).mst]; exact h
  | stackFirst =>
    refine stackLaw_takeUpStack ?_
    exact h

theorem takeImage_mst (img : Option (List Byte)) (s : State) : (takeImage img s).mst = s.mst :=
  (markIf_kept _ _ _).mst.trans (markIf_kept _ _ _).mst

/-- The completion of the start load: the stack is taken up, and the blocks beside it leave it alone. -/
theorem stackLaw_completeLoad {s : State} (h : StackLaw s.mst) (order : StartOrder) (img : Option (List Byte)) :
    StackLaw (completeLoad order img s).mst := by
  have loaded : StackLaw (placeRecords (recordsInUse img).2 (startLine (takeImage img s))).mst := by
    rw [(placeRecords_kept _ _).mst, startLine, setLine_mst, takeImage_mst]; exact h
  refine stackLaw_evaluateClimate ?_
  rw [updateOutdoor, updateEffective_mst, updateReferences_mst, startPeriods, (takeCutout_kept _).mst]
  exact stackLaw_takeUpFlows loaded order

end Sys2Proof.Machine
end

section
/-! SUPPORT. Which commands touch the mode stack at all, and what a property of it must be kept by, so that every step
keeps it. -/

namespace Sys2Proof.Machine
open Sys2Proof.Safety

theorem outdoorChanged_mst (s : State) : (outdoorChanged s).mst = s.mst := by
  unfold outdoorChanged; split <;> rfl

/-- No reader of a channel touches the stack. -/
theorem handOver_mst (ch : Channel) (before after : ChannelRecord) (s : State) :
    (handOver ch before after s).mst = s.mst := by
  rcases handOver_cases ch before after s with e | e | e | e <;> rw [e]
  · exact outdoorChanged_mst s
  · exact (refreshAvailability_kept s).mst
  · exact (exhaustChanged_kept before after s).mst

theorem takeConversion_mst (ch : Channel) (x : Sample) (s : State) : (takeConversion ch x s).mst = s.mst := by
  obtain ⟨srf, taken⟩ := takeConversion_eq ch x s
  rw [taken, handOver_mst]; rfl

theorem expireHold_mst (ch : Channel) (s : State) : (expireHold ch s).mst = s.mst := by
  unfold expireHold; dsimp only; split
  · rw [handOver_mst, (markActive_kept _ _).mst, setChannel_mst]
  · rfl

theorem endSave_mst (s : State) : (endSave s).mst = s.mst := by
  unfold endSave; split <;> rfl

theorem failByte_mst (sv : Save) (s : State) : (failByte sv s).mst = s.mst := by
  rw [failByte, endSave_mst, (markActive_kept _ _).mst]; rfl

theorem completeSave_mst (s : State) : (completeSave s).mst = s.mst := by
  rw [completeSave, endSave_mst, (markInactive_kept _ _).mst, (markInactive_kept _ _).mst]

theorem byteWritten_mst (sv : Save) (s : State) : (byteWritten sv s).mst = s.mst := by
  unfold byteWritten; dsimp only; split
  · rfl
  · exact completeSave_mst _

theorem lookAtSave_mst (sv : Save) (status : Byte) (s : State) : (lookAtSave sv status s).mst = s.mst := by
  unfold lookAtSave; split
  · exact failByte_mst sv _
  · split <;> rfl

theorem failFrame_mst (f : ShiftedFrame) (s : State) : (failFrame f s).mst = s.mst := by
  obtain ⟨_, _, kept⟩ := failFrame_kept f s; exact kept.mst

theorem beginContention_mst (c : Contention) (s : State) : (beginContention c s).mst = s.mst := by
  unfold beginContention; split
  · split
    · rfl
    · exact failFrame_mst _ _
    · rfl
  · rfl

theorem discard_mst (fault : LineFaultKind) (sender : Option Position) (kind : Option FrameKind) (s : State) :
    (Machine.discard fault sender kind s).mst = s.mst := by
  obtain ⟨_, _, _, kept⟩ := discard_kept fault sender kind s; exact kept.mst

theorem declareStuck_mst (s : State) : (declareStuck s).mst = s.mst := by
  obtain ⟨_, _, _, kept⟩ := declareStuck_kept s; exact kept.mst

theorem findDuplicate_mst (s : State) : (findDuplicate s).mst = s.mst := by
  obtain ⟨_, _, kept⟩ := findDuplicate_kept s; exact kept.mst

theorem recordEntry_mst (e : PeerEntry) (s : State) : (recordEntry e s).mst = s.mst := by
  obtain ⟨_, kept⟩ := recordEntry_kept e s; exact kept.mst

theorem hearState_mst (sender : Position) (payload : List Byte) (s : State) :
    (hearState sender payload s).mst = s.mst := by
  unfold hearState; split
  · split
    · rfl
    · exact recordEntry_mst _ s
  · rfl

theorem hearIntent_mst (sender : Position) (payload : List Byte) (s : State) :
    (hearIntent sender payload s).mst = s.mst := by
  unfold hearIntent; split
  · split
    · rfl
    · exact recordEntry_mst _ s
  · rfl

theorem hearEnd_mst (sender : Position) (payload : List Byte) (s : State) :
    (hearEnd sender payload s).mst = s.mst := by
  unfold hearEnd; split
  · exact recordEntry_mst _ s
  · rfl

theorem answerQuery_mst (space : Space) (payload : List Byte) (s : State) :
    (answerQuery space payload s).mst = s.mst := by
  unfold answerQuery; split
  · split <;> rfl
  · rfl

theorem endQuiet_mst (s : State) : (endQuiet s).mst = s.mst := by
  unfold endQuiet; split
  · exact (recheckIntent_kept _).mst
  · rfl

theorem endListenIn_mst (s : State) : (endListenIn s).mst = s.mst := by
  unfold endListenIn; split
  · exact (recheckIntent_kept _).mst
  · rfl

theorem ageEntries_mst (s : State) : (ageEntries s).mst = s.mst := by
  obtain ⟨_, kept⟩ := ageEntries_kept s; exact kept.mst

theorem expireEntry_mst (position : Position) (s : State) : (expireEntry position s).mst = s.mst := by
  unfold expireEntry; split
  · obtain ⟨_, kept⟩ := removeEntries_kept (fun e => e.position == position && expired s.params e) s
    exact kept.mst
  · rfl

/-- What a property of the stack must be kept by, so that every command in `on` keeps it: the passing of time, and the
commands that take the stack up or move it (chapter 3). -/
structure StackKeeps (on : Instr → Prop) (Q : ModeStack → Prop) : Prop where
  time : ∀ d m, Q m → Q (m.pass d)
  power : ∀ i boost away combustion, on i → ofSupply i = true → Q (ModeStack.atPowerOn boost away combustion)
  complete : ∀ i order img s, on i → mayComplete i = true → Q s.mst → Q (completeLoad order img s).mst
  pin : ∀ pin high s, on (.inputLevelChange pin high) → Q s.mst → Q (setPin pin high s).mst
  boost : ∀ s, on .boostDebounceExpiry → Q s.mst → Q (boostDebounced s).mst
  away : ∀ s, on .awayDebounceExpiry → Q s.mst → Q (awayDebounced s).mst
  combustion : ∀ s, on .combustionDebounceExpiry → Q s.mst → Q (combustionDebounced s).mst
  count : ∀ s, on .countdownTick → Q s.mst → Q (tick s).mst
  expire : ∀ s : State, on .remainingTimeExpiry → Q s.mst → Q (expireTop s.params s.mst)
  climate : ∀ s, on .climateTimerExpiry → Q s.mst → Q (evaluateClimate s).mst
  humidity : ∀ s, on .humidityEvaluation → Q s.mst → Q (humidityEvaluate s).mst

/-- Every command that does not belong to the stack leaves it alone. -/
theorem StackKeeps.keeps {on : Instr → Prop} {Q : ModeStack → Prop} (k : StackKeeps on Q) :
    Keeps on (fun s => Q s.mst) where
  time d s h := by
    unfold passTime; split
    · exact k.time d _ h
    · exact h
  power i b s ho hi _ := k.power i _ _ _ ho hi
  look i status order s ho hi _ _ h := by
    unfold lookAtMemory; split
    · exact k.complete i order none _ ho hi h
    · split <;> exact h
  complete i order img s ho hi _ _ h := k.complete i order img s ho hi h
  pin pin high s ho h := k.pin pin high s ho h
  boost s ho _ h := k.boost s ho h
  away s ho _ h := k.away s ho h
  combustion s ho _ h := k.combustion s ho h
  count s ho _ h := k.count s ho h
  expire s ho _ h := k.expire s ho h
  climate s ho _ h := k.climate s ho h
  humidity s ho _ h := k.humidity s ho h
  -- the scanner
  conversion ch raw s _ _ h := (takeConversion_mst ch _ s).symm ▸ h
  hold ch s _ _ h := (expireHold_mst ch s).symm ▸ h
  pulse _ _ _ _ _ _ h := h
  scan s _ _ h := (refreshAvailability_kept _).mst.symm ▸ h
  -- the fan drive
  evaluation s _ _ h := (fanEvaluate_kept s).mst.symm ▸ h
  settle f s _ _ h := (settleAtLimit_kept f s).mst.symm ▸ h
  stall f s _ _ h := (stallAtLimit_kept f s).mst.symm ▸ h
  retry f s _ _ h := (endRetryPause_kept f s).mst.symm ▸ h
  -- the frost guard
  frost s _ _ h := (frostEvaluate_kept s).mst.symm ▸ h
  fullPower s _ _ h := (endPreheat_kept s).mst.symm ▸ h
  holdoff s _ _ h := (endHoldoff_kept s).mst.symm ▸ h
  thaw s _ _ h := (thawTimedOut_kept s).mst.symm ▸ h
  recover s _ _ h := (endRecover_kept s).mst.symm ▸ h
  timedThaw s _ _ h := (endTimedThaw_kept s).mst.symm ▸ h
  iceHold s _ _ h := (endIceHold_kept s).mst.symm ▸ h
  heat _ _ _ h := h
  cutout s _ _ h := (cutoutDebounced_kept s).mst.symm ▸ h
  -- the filter monitor and the memory port
  filterRecord _ f op s _ _ _ h := (onRecord_kept f op s).mst.symm ▸ h
  blocked f s _ _ h := (enterBlocked_kept f s).mst.symm ▸ h
  capture f s _ _ h := (captureAtLimit_kept f s).mst.symm ▸ h
  filterButton _ _ _ h := h
  filterHold s _ _ h := (filterHeld_kept s).mst.symm ▸ h
  save _ sv status s _ _ _ h := (lookAtSave_mst sv status s).symm ▸ h
  byteFailed _ sv s _ _ _ h := (failByte_mst sv s).symm ▸ h
  byteWritten _ sv s _ _ _ h := (byteWritten_mst sv s).symm ▸ h
  -- the terrace line
  idle _ _ _ h := h
  dominant _ _ _ h := h
  contention c s _ _ h := (beginContention_mst c s).symm ▸ h
  lost _ _ _ _ h := h
  bitError f s _ _ h := (failFrame_mst f s).symm ▸ h
  success _ _ _ _ h := h
  discarded _ fault sender kind s _ _ _ h := (discard_mst fault sender kind s).symm ▸ h
  stuck s _ _ h := (declareStuck_mst s).symm ▸ h
  stuckReception s _ _ h := (declareStuck_mst (setLine (toWaiting s.lnc) s)).symm ▸ h
  heard _ _ _ _ _ _ _ h := h
  duplicate _ s _ _ _ _ h := (findDuplicate_mst s).symm ▸ h
  quiet s _ _ h := (endQuiet_mst s).symm ▸ h
  listenIn s _ _ h := (endListenIn_mst s).symm ▸ h
  statePeriod _ _ _ h := h
  -- the peer table, the outdoor resolver, the responder and the lamps
  stateFrame sender payload s _ _ _ h := (hearState_mst sender payload s).symm ▸ h
  intentFrame sender payload s _ _ _ h := (hearIntent_mst sender payload s).symm ▸ h
  endFrame sender payload s _ _ _ h := (hearEnd_mst sender payload s).symm ▸ h
  query _ space payload s _ _ _ h := (answerQuery_mst space payload s).symm ▸ h
  clearCapture _ _ _ _ _ h := h
  clearFaults _ _ _ _ _ h := h
  clearRetry _ _ s _ _ h := (clearRetries_kept s).mst.symm ▸ h
  ageing s _ _ h := (ageEntries_mst s).symm ▸ h
  entryGone p s _ _ h := (expireEntry_mst p s).symm ▸ h
  plumeHold _ _ _ h := h
  flash _ _ _ _ h := h
  pending _ _ h := h
  lamps s h := (refreshLamps_kept s).mst.symm ▸ h

/-- The stack's law is kept by every command (R43). -/
theorem stackLaw_keeps : StackKeeps (fun _ => True) StackLaw where
  time d _ h := stackLaw_pass h d
  power _ boost away combustion _ _ := stackLaw_atPowerOn boost away combustion
  complete _ order img _ _ _ h := stackLaw_completeLoad h order img
  pin pin high _ _ h := stackLaw_setPin h pin high
  boost _ _ h := stackLaw_boostDebounced h
  away _ _ h := stackLaw_awayDebounced h
  combustion _ _ h := stackLaw_combustionDebounced h
  count _ _ h := stackLaw_tick h
  expire s _ h := stackLaw_expireTop h s.params
  climate _ _ h := stackLaw_evaluateClimate h
  humidity _ _ h := stackLaw_humidityEvaluate h

end Sys2Proof.Machine
end

section
/-! SUPPORT. The mode stack's own commands: the debounced inputs, the remaining times, the climate set. -/

namespace Sys2Proof.Machine

/-! ### The passing of time and the lamps -/

@[simp] theorem refreshLamps_mst (s : State) : (refreshLamps s).mst = s.mst := (refreshLamps_kept s).mst

theorem passTime_mst {s : State} (h : s.powered = true) (d : Nat) : (passTime d s).mst = s.mst.pass d := by
  simp [passTime, h]

@[simp] theorem passTime_tOut (d : Nat) (s : State) : (passTime d s).odr.tOut = s.odr.tOut := by
  unfold passTime; split <;> rfl

@[simp] theorem passTime_denial (d : Nat) (s : State) : (passTime d s).frg.denial = s.frg.denial := by
  unfold passTime; split <;> rfl

/-- A settled debounce shows nothing of the time that its candidate timer has run (R46). -/
theorem settle_pass (b : Debounce) (limit d : Nat) : (b.pass limit d).settle = b.settle := by
  unfold Debounce.pass; split <;> rfl

theorem pass_high (b : Debounce) (limit d : Nat) : (b.pass limit d).high = b.high := by
  unfold Debounce.pass; split <;> rfl

theorem pass_heldAtStart (b : Debounce) (limit d : Nat) : (b.pass limit d).heldAtStart = b.heldAtStart := by
  unfold Debounce.pass; split <;> rfl

/-- The candidate timer runs while the level differs from the debounced one (R46). -/
theorem running_of_differs {b : Debounce} (h : b.high ≠ b.debouncedHigh) : b.running = some b.candidate := if_neg h

/-! ### The level on a pin -/

/-- INPUT_LEVEL_CHANGE, in a part with supply or without. -/
theorem exec_inputLevelChange (pin : InputPin) (high : Bool) (s : State) :
    exec (.inputLevelChange pin high) s = .next (setPin pin high s) := rfl

/-! ### The BOOST button (R46, R48) -/

theorem press_of_top {m : ModeStack} (h : (topEntry m).origin = .button) (p : Params) :
    press p m = withdraw .button m := if_pos h

theorem press_of_waiting {m : ModeStack} (top : (topEntry m).origin ≠ .button) (h : hasEntry m .button = true)
    (p : Params) : press p m = setRemaining .button (some (60 * p.boostTime)) m := by
  rw [press, if_neg top, if_pos h]

theorem press_of_absent {m : ModeStack} (top : (topEntry m).origin ≠ .button) (h : hasEntry m .button = false)
    (p : Params) : press p m = insertEntry p .button m := by
  rw [press, if_neg top, if_neg (by simp [h])]

/-- A press changes the entries and the sequence counter only. -/
theorem press_boost (p : Params) (m : ModeStack) : (press p m).boost = m.boost := by
  unfold press; split
  · rfl
  · split
    · rfl
    · unfold insertEntry; split <;> rfl

/-- The stack once time has passed and the BOOST button's debounced state has changed (R46). -/
def boostSettled (d : Nat) (m : ModeStack) : ModeStack :=
  { m.pass d with boost := { m.boost.settle with heldAtStart := false } }

/-- BOOST_DEBOUNCE_EXPIRY in service: time up to the debounce's end (log 2), the debounced state, and the press where the
button is down and was not held down across the start (R46). -/
theorem exec_boostDebounceExpiry {s : State} (served : inService s = true)
    (differs : s.mst.boost.high ≠ s.mst.boost.debouncedHigh) {d : Nat} (elapsed : d = millis 50 - s.mst.boost.candidate) :
    exec .boostDebounceExpiry s = .next (refreshLamps (setStack
      (if s.mst.boost.high = false ∧ s.mst.boost.heldAtStart = false then press s.params (boostSettled d s.mst)
      else boostSettled d s.mst) (passTime d s))) := by
  have on := powered_of_inService served
  have timed : exec .boostDebounceExpiry s = .next (refreshLamps (boostDebounced (passTime d s))) := by
    subst elapsed
    refine (whenPowered_of _ s on).trans ?_
    rw [running_of_differs differs, atLimit_some]; rfl
  rw [timed]
  unfold boostDebounced boostSettled
  rw [passTime_mst on, passTime_params, passTime_inService, served]
  simp only [ModeStack.pass, settle_pass, pass_high, pass_heldAtStart]
  cases s.mst.boost.high <;> cases s.mst.boost.heldAtStart <;> rfl

/-! ### The contacts (R47, R49, R50) -/

/-- AWAY_DEBOUNCE_EXPIRY in service: time up to the debounce's end (log 2), the debounced state, and the contact taken as it
then stands. -/
theorem exec_awayDebounceExpiry {s : State} (served : inService s = true)
    (differs : s.mst.away.high ≠ s.mst.away.debouncedHigh) {d : Nat} (elapsed : d = seconds 2 - s.mst.away.candidate) :
    exec .awayDebounceExpiry s = .next (refreshLamps (takeAway
      (setStack { s.mst.pass d with away := s.mst.away.settle } (passTime d s)))) := by
  subst elapsed
  have on := powered_of_inService served
  refine (whenPowered_of _ s on).trans ?_
  rw [running_of_differs differs, atLimit_some, awayDebounced, passTime_inService, if_pos served, passTime_mst on]
  rw [show contactDebounce = seconds 2 from rfl]
  simp only [ModeStack.pass, settle_pass]

theorem takeAway_of_closed {s : State} (h : s.mst.away.debouncedHigh = false) :
    takeAway s = setStack (insertEntry s.params .away s.mst) s := by simp [takeAway, Debounce.low, h]

theorem takeAway_of_open {s : State} (h : s.mst.away.debouncedHigh = true) :
    takeAway s = setStack (withdraw .away s.mst) s := by simp [takeAway, Debounce.low, h]

/-- COMBUSTION_DEBOUNCE_EXPIRY in service, as AWAY_DEBOUNCE_EXPIRY. -/
theorem exec_combustionDebounceExpiry {s : State} (served : inService s = true)
    (differs : s.mst.combustion.high ≠ s.mst.combustion.debouncedHigh) {d : Nat}
    (elapsed : d = seconds 2 - s.mst.combustion.candidate) :
    exec .combustionDebounceExpiry s = .next (refreshLamps (takeCombustion
      (setStack { s.mst.pass d with combustion := s.mst.combustion.settle } (passTime d s)))) := by
  subst elapsed
  have on := powered_of_inService served
  refine (whenPowered_of _ s on).trans ?_
  rw [running_of_differs differs, atLimit_some, combustionDebounced, passTime_inService, if_pos served, passTime_mst on]
  rw [show contactDebounce = seconds 2 from rfl]
  simp only [ModeStack.pass, settle_pass]

/-! ### Remaining times (R45, R53) -/

section
variable {m : ModeStack} {x : ModeEntry} {rest : List ModeEntry}

theorem topEntry_of_cons (h : m.above = x :: rest) : topEntry m = x := by simp [topEntry, h]

/-- An entry counted down by a tick (R45). -/
def countEntry (x : ModeEntry) : ModeEntry := { x with remaining := x.remaining.map (· - 1) }

theorem countEntry_of_unbounded (h : x.remaining = none) : countEntry x = x := by
  unfold countEntry; rw [h, Option.map_none, ← h]

theorem countEntry_of_running {n : Nat} (h : x.remaining = some (n + 1)) :
    countEntry x = { x with remaining := some n } := by
  unfold countEntry; rw [h]; rfl

theorem countTop_of_cons (h : m.above = x :: rest) : countTop m = { m with above := countEntry x :: rest } := by
  unfold countTop; rw [h]; rfl

theorem hasEntry_countTop (m : ModeStack) (o : Origin) : hasEntry (countTop m) o = hasEntry m o := by
  rw [Bool.eq_iff_iff, hasEntry_iff, hasEntry_iff, origins_countTop]

theorem expireTop_of_time_left (h : m.above = x :: rest) (left : x.remaining ≠ some 0) (p : Params) :
    expireTop p m = m := by
  rw [expireTop, topEntry_of_cons h, if_neg left]

/-- The end of a BUTTON entry's time (R45). -/
theorem expireTop_of_button (h : m.above = x :: rest) (zero : x.remaining = some 0) (button : x.origin = .button)
    (p : Params) : (expireTop p m).above = rest.filter (fun y => y.origin != .button) := by
  rw [expireTop, topEntry_of_cons h, if_pos zero, if_neg (by simp [button]), withdraw, h, button]
  simp [button]

theorem withdraw_humBoost_of_cons (h : m.above = x :: rest) (boost : x.origin = .humBoost) :
    (withdraw .humBoost m).above = rest.filter (fun y => y.origin != .humBoost) := by
  rw [withdraw, h]; simp [boost]

/-- The end of a run-on without a dry request (R53). -/
theorem expireTop_of_runOn (h : m.above = x :: rest) (zero : x.remaining = some 0) (boost : x.origin = .humBoost)
    (noDry : m.dryCopy = false) (p : Params) :
    (expireTop p m).above = rest.filter (fun y => y.origin != .humBoost) := by
  rw [expireTop, topEntry_of_cons h, if_pos zero, if_pos boost, endRunOn, if_neg (by simp [noDry]),
    withdraw_humBoost_of_cons h boost]

/-- The end of a run-on under a dry request: HUM_DRY takes the place of HUM_BOOST by its priority (R43, R53). -/
theorem expireTop_of_runOn_dry (h : m.above = x :: rest) (zero : x.remaining = some 0) (boost : x.origin = .humBoost)
    (dry : m.dryCopy = true) (absent : hasEntry m .humDry = false) (p : Params) :
    (expireTop p m).above = place ⟨.humDry, p.dryLevel, none, m.counter⟩
      (rest.filter (fun y => y.origin != .humBoost)) := by
  have fresh : hasEntry (withdraw .humBoost m) .humDry = false := by simp [hasEntry_withdraw, absent]
  rw [expireTop, topEntry_of_cons h, if_pos zero, if_pos boost, endRunOn, if_pos dry, insertEntry_of_absent fresh]
  dsimp only
  rw [withdraw_humBoost_of_cons h boost]; rfl

end

/-- A tick is the count and the expiry on the stack, with the tick's timer restarted (R45). -/
theorem tick_mst (s : State) : (tick s).mst = { expireTop s.params (countTop s.mst) with countdown := some 0 } := rfl

/-- COUNTDOWN_TICK in service: time up to the tick, and then the tick (log 2). -/
theorem exec_countdownTick {s : State} (served : inService s = true) {e : Nat} (running : s.mst.countdown = some e) :
    exec .countdownTick s = .next (refreshLamps (tick (passTime (seconds 1 - e) s))) := by
  refine (whenInService_of _ s served).trans ?_
  rw [running, atLimit_some]; rfl

/-- REMAINING_TIME_EXPIRY in service (log 4). -/
theorem exec_remainingTimeExpiry {s : State} (served : inService s = true) :
    exec .remainingTimeExpiry s = .next (refreshLamps (setStack (expireTop s.params s.mst) s)) :=
  whenInService_of _ s served

/-! ### The climate set (R57) -/

theorem climateStep_normal (v : Int) : (v < -100 → climateStep .normal v = .cold) ∧
    (130 ≤ v → climateStep .normal v = .mild) ∧ (-100 ≤ v → v < 130 → climateStep .normal v = .normal) := by
  refine ⟨fun h => if_pos h, fun h => ?_, fun lo hi => ?_⟩
  · rw [climateStep, if_neg (by omega), if_pos h]
  · rw [climateStep, if_neg (by omega), if_neg (by omega)]

theorem climateStep_cold (v : Int) :
    (-90 ≤ v → climateStep .cold v = .normal) ∧ (v < -90 → climateStep .cold v = .cold) :=
  ⟨fun h => if_pos h, fun h => if_neg (by omega)⟩

theorem climateStep_mild (v : Int) :
    (v < 120 → climateStep .mild v = .normal) ∧ (120 ≤ v → climateStep .mild v = .mild) :=
  ⟨fun h => if_pos h, fun h => if_neg (by omega)⟩

/-- A climate-set evaluation on a known outdoor temperature. -/
theorem evaluateClimate_of {s : State} {v : Int} (h : s.odr.tOut = some v) : evaluateClimate s =
    { s with mst := { s.mst with climate := climateStep s.mst.climate v, climateTimer := some 0 } } := by
  unfold evaluateClimate; rw [h]; rfl

/-- CLIMATE_TIMER_EXPIRY in service: time up to the timer's limit, and then the evaluation (log 2). -/
theorem exec_climateTimerExpiry {s : State} (served : inService s = true) {e : Nat}
    (running : s.mst.climateTimer = some e) :
    exec .climateTimerExpiry s = .next (refreshLamps (evaluateClimate (passTime (minutes 10 - e) s))) := by
  refine (whenInService_of _ s served).trans ?_
  rw [running, atLimit_some]; rfl

end Sys2Proof.Machine
end

section
/-! SUPPORT. The appearance of a COMBUSTION entry at the fan drive and the frost guard (R26, R50, R79, R159). -/

namespace Sys2Proof.Machine
open Sys2Proof.Safety

@[simp] theorem guardFlows_frg (appears : Bool) (s : State) : (guardFlows appears s).frg = s.frg := by
  obtain ⟨fdr, e⟩ := guardFlows_eq appears s; rw [e]

/-- Where the guard acts under combustion, it leaves an extract of at most the supply (R26). -/
theorem guardFlows_of_combustion {appears : Bool} {s : State} (flag : combustionFlag s = true)
    (acts : appears = true ∨ s.frg.state ≠ .thawU) :
    (fan (guardFlows appears s) .ext).commanded ≤ (fan (guardFlows appears s) .sup).commanded := by
  rw [guardFlows_flow, guardFlows_flow, flowOf, flowOf]
  unfold guardedPair; dsimp only; split
  · next thaw =>
      have appears : appears = true := acts.resolve_right (fun other => other thaw)
      split
      · exact Nat.le_refl _
      · next notBelow => simpa [appears] using notBelow
  · exact (balancePair_spec _ _ _).2.2.1 flag

/-- Outside PREHEAT, availability worked out afresh touches the preheater only (R68). -/
theorem refreshAvailability_frg {s : State} (h : s.frg.state ≠ .preheat) : ∃ available power heatOn heatLeft,
    (refreshAvailability s).frg =
      { s.frg with available := available, power := power, heatOn := heatOn, heatLeft := heatLeft } := by
  unfold refreshAvailability; split
  · split
    · exact ⟨_, _, _, _, rfl⟩
    · rw [withdrawPreheater, if_neg (by exact h)]; exact ⟨_, _, _, _, rfl⟩
  · exact ⟨_, _, _, _, rfl⟩

theorem fansChanged_frg {s : State} (h : s.frg.state ≠ .preheat) : ∃ available power heatOn heatLeft,
    (fansChanged s).frg =
      { s.frg with available := available, power := power, heatOn := heatOn, heatLeft := heatLeft } := by
  obtain ⟨flm, broken⟩ := breakCaptures_eq s
  rw [fansChanged, broken]
  exact refreshAvailability_frg (s := { s with flm := flm }) h

/-- The entry to a thaw restarts the thaw timer and keeps the denial (R76). -/
theorem enterThaw_frg (st : FrostState) (power : Nat) (s : State) : (enterThaw st power s).frg.state = st ∧
    (enterThaw st power s).frg.denial = s.frg.denial ∧ (enterThaw st power s).frg.thaw = some 0 := by
  obtain ⟨left, powered⟩ := setPower_eq power { s.frg with holdoff := none, thaw := some 0 }
  obtain ⟨_, _, _, _, moved⟩ := moveTo_eq st
    { s with frg := setPower power { s.frg with holdoff := none, thaw := some 0 } }
  have frost : (enterThaw st power s).frg =
      (moveTo st { s with frg := setPower power { s.frg with holdoff := none, thaw := some 0 } }).frg := rfl
  rw [frost, moved, powered]
  exact ⟨rfl, rfl, rfl⟩

/-- The balanced thaw to which an unbalanced one is converted, before the guard is told of it (R79). -/
def convertedThaw (s : State) : State :=
  composeState (moveTo .thawB { s with frg := setPower (thawBPower s) s.frg })

theorem convertThaw_of_thawU {s : State} (h : s.frg.state = .thawU) :
    convertThaw s = fansChanged (guardFlows false (convertedThaw s)) := if_pos h

theorem convertThaw_of_other {s : State} (h : s.frg.state ≠ .thawU) : convertThaw s = s := if_neg h

theorem convertedThaw_frg (s : State) : (convertedThaw s).frg.state = .thawB ∧
    (convertedThaw s).frg.denial = s.frg.denial ∧ (convertedThaw s).frg.thaw = s.frg.thaw := by
  obtain ⟨left, powered⟩ := setPower_eq (thawBPower s) s.frg
  obtain ⟨_, _, _, _, moved⟩ := moveTo_eq .thawB { s with frg := setPower (thawBPower s) s.frg }
  have frost : (convertedThaw s).frg = (moveTo .thawB { s with frg := setPower (thawBPower s) s.frg }).frg := rfl
  rw [frost, moved, powered]
  exact ⟨rfl, rfl, rfl⟩

theorem convertedThaw_combustionFlag (s : State) : combustionFlag (convertedThaw s) = combustionFlag s :=
  (((frost_kept s _).trans (moveTo_kept _ _)).trans (composeState_kept _)).combustionFlag

/-- A converted thaw is balanced, with its denial and its thaw timer kept (R79). -/
theorem convertThaw_frg {s : State} (h : s.frg.state = .thawU) : (convertThaw s).frg.state = .thawB ∧
    (convertThaw s).frg.denial = s.frg.denial ∧ (convertThaw s).frg.thaw = s.frg.thaw := by
  obtain ⟨state, denial, thaw⟩ := convertedThaw_frg s
  obtain ⟨_, _, _, _, told⟩ := fansChanged_frg (s := guardFlows false (convertedThaw s)) (by simp [state])
  rw [convertThaw_of_thawU h, told, guardFlows_frg]
  exact ⟨state, denial, thaw⟩

/-- A COMBUSTION entry denies an intent (R159). -/
theorem combustionAppeared_of_intent {s : State} (flag : combustionFlag s = true) (intent : s.frg.state = .intent) :
    combustionAppeared s = deny .combustion s := by
  have denied : recheckIntent s = deny .combustion s := by simp [recheckIntent, intent, checkIntent, intentCheck, flag]
  have balanced : (deny .combustion s).frg.state = .thawB := (enterThaw_frg _ _ _).1
  rw [combustionAppeared, denied, convertThaw_of_other (by simp [balanced])]

/-- Outside INTENT a COMBUSTION entry can only convert a thaw (R79). -/
theorem combustionAppeared_of_other {s : State} (h : s.frg.state ≠ .intent) : combustionAppeared s = convertThaw s := by
  rw [combustionAppeared, recheckIntent, if_neg h]

theorem combustionAppeared_not_thawU {s : State} (flag : combustionFlag s = true) :
    (combustionAppeared s).frg.state ≠ .thawU := by
  by_cases intent : s.frg.state = .intent
  · rw [combustionAppeared_of_intent flag intent, deny, (enterThaw_frg _ _ _).1]; decide
  · rw [combustionAppeared_of_other intent]
    by_cases thaw : s.frg.state = .thawU
    · rw [(convertThaw_frg thaw).1]; decide
    · rw [convertThaw_of_other thaw]; exact thaw

/-- The frost guard's answer to a COMBUSTION entry leaves the extract at most the supply (R26). -/
theorem combustionAppeared_flows {s : State} (flag : combustionFlag s = true)
    (flows : (fan s .ext).commanded ≤ (fan s .sup).commanded) :
    (fan (combustionAppeared s) .ext).commanded ≤ (fan (combustionAppeared s) .sup).commanded := by
  by_cases intent : s.frg.state = .intent
  · rw [combustionAppeared_of_intent flag intent, fan_of_fdr (deny_fdr _ s), fan_of_fdr (deny_fdr _ s)]; exact flows
  · rw [combustionAppeared_of_other intent]
    by_cases thaw : s.frg.state = .thawU
    · rw [convertThaw_of_thawU thaw, fansChanged_fan, fansChanged_fan]
      exact guardFlows_of_combustion ((convertedThaw_combustionFlag s).trans flag)
        (.inr (by rw [(convertedThaw_frg s).1]; decide))
    · rw [convertThaw_of_other thaw]; exact flows

/-- What the frost guard is told of a COMBUSTION entry's appearance on: the entry on the stack, the flows guarded (R50). -/
def combustionGuarded (s : State) : State :=
  fansChanged (guardFlows true (setStack (insertEntry s.params .combustion s.mst) s))

theorem insertCombustion_of_absent {s : State} (h : combustionFlag s = false) :
    insertCombustion s = combustionAppeared (combustionGuarded s) := if_neg (by simp [h])

theorem combustionFlag_insertEntry (s : State) :
    combustionFlag (setStack (insertEntry s.params .combustion s.mst) s) = true :=
  (hasEntry_insertEntry s.params .combustion s.mst .combustion).2 (.inl rfl)

theorem combustionGuarded_combustionFlag (s : State) : combustionFlag (combustionGuarded s) = true :=
  ((guardFlows_kept _ _).trans (fansChanged_kept _)).combustionFlag.trans (combustionFlag_insertEntry s)

theorem combustionGuarded_flows (s : State) :
    (fan (combustionGuarded s) .ext).commanded ≤ (fan (combustionGuarded s) .sup).commanded := by
  rw [combustionGuarded, fansChanged_fan, fansChanged_fan]
  exact guardFlows_of_combustion (combustionFlag_insertEntry s) (.inl rfl)

/-- The fan drive's guard leaves the frost state, the denial and the thaw timer as they were. -/
theorem combustionGuarded_frg {s : State} (h : s.frg.state ≠ .preheat) :
    (combustionGuarded s).frg.state = s.frg.state ∧ (combustionGuarded s).frg.denial = s.frg.denial ∧
      (combustionGuarded s).frg.thaw = s.frg.thaw := by
  obtain ⟨_, _, _, _, told⟩ := fansChanged_frg
    (s := guardFlows true (setStack (insertEntry s.params .combustion s.mst) s)) (by simpa using h)
  rw [combustionGuarded, told, guardFlows_frg]
  exact ⟨rfl, rfl, rfl⟩

section
variable {s : State}

theorem insertCombustion_flows (h : combustionFlag s = false) :
    (fan (insertCombustion s) .ext).commanded ≤ (fan (insertCombustion s) .sup).commanded := by
  rw [insertCombustion_of_absent h]
  exact combustionAppeared_flows (combustionGuarded_combustionFlag s) (combustionGuarded_flows s)

theorem insertCombustion_not_thawU (h : combustionFlag s = false) : (insertCombustion s).frg.state ≠ .thawU := by
  rw [insertCombustion_of_absent h]
  exact combustionAppeared_not_thawU (combustionGuarded_combustionFlag s)

/-- A COMBUSTION entry turns an intent into a balanced thaw from its start (R159). -/
theorem insertCombustion_of_intent (h : combustionFlag s = false) (intent : s.frg.state = .intent) :
    (insertCombustion s).frg.state = .thawB ∧ (insertCombustion s).frg.denial = some .combustion ∧
      (insertCombustion s).frg.thaw = some 0 := by
  have guarded : (combustionGuarded s).frg.state = .intent :=
    (combustionGuarded_frg (by simp [intent])).1.trans intent
  rw [insertCombustion_of_absent h, combustionAppeared_of_intent (combustionGuarded_combustionFlag s) guarded]
  exact enterThaw_frg _ _ _

/-- A COMBUSTION entry converts an unbalanced thaw, which keeps its denial and its thaw timer (R79). -/
theorem insertCombustion_of_thawU (h : combustionFlag s = false) (thawing : s.frg.state = .thawU) :
    (insertCombustion s).frg.state = .thawB ∧ (insertCombustion s).frg.denial = s.frg.denial ∧
      (insertCombustion s).frg.thaw = s.frg.thaw := by
  obtain ⟨state, denial, thaw⟩ := combustionGuarded_frg (s := s) (by simp [thawing])
  rw [thawing] at state
  rw [insertCombustion_of_absent h, combustionAppeared_of_other (by simp [state]), ← denial, ← thaw]
  exact convertThaw_frg state

theorem insertCombustion_above (h : combustionFlag s = false) : (insertCombustion s).mst.above =
    ⟨.combustion, s.params.combLevel, none, s.mst.counter⟩ :: s.mst.above := by
  rw [insertCombustion_mst, insertEntry_of_absent h]
  exact place_of_combustion rfl _

theorem takeCombustion_of_active (h : s.mst.combustion.debouncedHigh = true) : takeCombustion s = insertCombustion s :=
  if_pos h

theorem takeCombustion_of_inactive (h : s.mst.combustion.debouncedHigh = false) :
    takeCombustion s = setStack (withdraw .combustion s.mst) s := if_neg (by simp [combustionActive, h])

end

end Sys2Proof.Machine
end

section
/-! The statements of the mode stack. -/

open Sys2Proof.Machine Sys2Proof.Safety

/-- Settles O56: the law bounds the stack, and every operation of the mode stack keeps it, the other commands leaving the stack
alone. -/
theorem modeStackLawIsKept : Obligations.ModeStackLawIsKept := by
  unfold Obligations.ModeStackLawIsKept
  exact ⟨fun _ => stackLaw_length, fun _ _ law stepped => stackLaw_keeps.keeps.step (fun _ => trivial) stepped law⟩

/-- Settles O17. -/
theorem inputLevelStandsOnItsPin : Obligations.InputLevelStandsOnItsPin := by
  unfold Obligations.InputLevelStandsOnItsPin
  rintro s high after rfl
  exact ⟨exec_inputLevelChange .boost high s, exec_inputLevelChange .away high s,
    exec_inputLevelChange .combustion high s, exec_inputLevelChange .filter high s, exec_inputLevelChange .cutout high s⟩

/-- Settles O18: the placement, the press by where its BUTTON entry stands, the release, and the AWAY contact closed and
open. -/
theorem boostPressAndAwayContactMoveTheStack : Obligations.BoostPressAndAwayContactMoveTheStack := by
  unfold Obligations.BoostPressAndAwayContactMoveTheStack
  refine ⟨place_placesByPriority, fun s e h served => ⟨fun boost => ?_, fun boost => ?_, fun away => ?_, fun away => ?_⟩⟩
  · have taken := exec_boostDebounceExpiry served (by simp [boost]) rfl
    rw [if_pos (by simp [boost]), boost] at taken
    refine ⟨_, taken, ?_, ?_, fun absent top => ?_, fun waiting top => ?_, fun top => ?_⟩
    · rw [refreshLamps_uptime, setStack_uptime, passTime_uptime (powered_of_inService served)]
    · rw [refreshLamps_mst, setStack_mst, press_boost, boostSettled, boost]; rfl
    · rw [refreshLamps_mst, setStack_mst, press_of_absent (by exact top) (by exact absent),
        insertEntry_of_absent (by exact absent)]
      exact ⟨rfl, rfl⟩
    · rw [refreshLamps_mst, setStack_mst, press_of_waiting (by exact top) (by exact waiting)]
      exact ⟨rfl, rfl⟩
    · rw [refreshLamps_mst, setStack_mst, press_of_top (by exact top)]
      exact ⟨rfl, rfl⟩
  · have taken := exec_boostDebounceExpiry served (by simp [boost]) rfl
    rw [if_neg (by simp [boost]), boost] at taken
    refine ⟨_, taken, ?_⟩
    rw [refreshLamps_mst, setStack_mst, boostSettled, boost]
    exact ⟨rfl, rfl, rfl⟩
  · have taken := exec_awayDebounceExpiry served (by simp [away]) rfl
    rw [takeAway_of_closed (by simp [away, Debounce.settle]), away] at taken
    refine ⟨_, taken, ?_, ?_, fun absent => ?_⟩
    · rw [refreshLamps_uptime, setStack_uptime, setStack_uptime, passTime_uptime (powered_of_inService served)]
    · rw [refreshLamps_mst, setStack_mst]
      unfold insertEntry; split <;> rfl
    · rw [refreshLamps_mst, setStack_mst, insertEntry_of_absent (by exact absent)]
      exact ⟨rfl, rfl⟩
  · have taken := exec_awayDebounceExpiry served (by simp [away]) rfl
    rw [takeAway_of_open (by simp [away, Debounce.settle]), away] at taken
    refine ⟨_, taken, ?_⟩
    rw [refreshLamps_mst, setStack_mst]
    exact ⟨rfl, rfl, rfl⟩

/-- Settles O19: the entry's appearance by what the fan drive and the frost guard make of it, and its withdrawal. -/
theorem combustionContactGuardsTheFlue : Obligations.CombustionContactGuardsTheFlue := by
  unfold Obligations.CombustionContactGuardsTheFlue
  refine fun s e h served => ⟨fun active absent => ?_, fun inactive => ?_⟩
  · have taken := exec_combustionDebounceExpiry served (by simp [active]) rfl
    rw [takeCombustion_of_active (by simp [active, Debounce.settle]), active] at taken
    refine ⟨_, taken, ?_, ?_, ?_, ?_, fun intent => ?_, fun thaw => ?_⟩
    · rw [refreshLamps_uptime, (insertCombustion_kept _).uptime, setStack_uptime, setStack_uptime,
        passTime_uptime (powered_of_inService served)]
    · rw [refreshLamps_mst, insertCombustion_above (by exact absent), setStack_params, passTime_params]; rfl
    · rw [fan_of_fdr (refreshLamps_fdr _), fan_of_fdr (refreshLamps_fdr _)]
      exact insertCombustion_flows absent
    · rw [refreshLamps_frg]; exact insertCombustion_not_thawU absent
    · rw [refreshLamps_frg]; exact insertCombustion_of_intent absent (by simpa using intent)
    · rw [refreshLamps_frg, ← passTime_denial (seconds 2 - e) s]
      exact insertCombustion_of_thawU absent (by simpa using thaw)
  · have taken := exec_combustionDebounceExpiry served (by simp [inactive]) rfl
    rw [takeCombustion_of_inactive (by simp [inactive, Debounce.settle]), inactive] at taken
    refine ⟨_, taken, ?_, ?_⟩
    · rw [refreshLamps_mst]; rfl
    · rw [refreshLamps_fdr]; rfl

/-- Settles O20: the tick counts the top entry and then expires it where it stands at 0; the expiry of its own does the second
alone. -/
theorem remainingTimeCountsOnTopOnly : Obligations.RemainingTimeCountsOnTopOnly := by
  unfold Obligations.RemainingTimeCountsOnTopOnly
  refine ⟨place_placesByPriority, fun s e x rest served running top => ?_⟩
  have on := powered_of_inService served
  have count := countTop_of_cons (m := s.mst.pass (seconds 1 - e)) top
  have above : (countTop (s.mst.pass (seconds 1 - e))).above = countEntry x :: rest := by rw [count]
  refine ⟨_, _, exec_countdownTick served running, exec_remainingTimeExpiry served, ?_⟩
  simp only [refreshLamps_mst, refreshLamps_uptime, setStack_mst, tick_mst, passTime_mst on, passTime_params,
    true_and]
  refine ⟨passTime_uptime on _, ?_, ?_, ?_, ?_, ?_, ?_, ?_, ?_⟩
  · intro unbounded
    rw [countEntry_of_unbounded unbounded] at above
    rw [expireTop_of_time_left above (by simp [unbounded]), above, top]
  · intro n left
    rw [countEntry_of_running left] at above
    rw [expireTop_of_time_left above (by simp), above]
  · intro last button
    rw [countEntry_of_running last] at above
    exact expireTop_of_button above rfl button s.params
  · intro last boost noDry
    rw [countEntry_of_running last] at above
    exact expireTop_of_runOn above rfl boost (by rw [count]; exact noDry) s.params
  · intro last boost dry absent
    rw [countEntry_of_running last] at above
    have placed := expireTop_of_runOn_dry above rfl boost (by rw [count]; exact dry)
      ((hasEntry_countTop _ _).trans absent) s.params
    rw [placed, count]; rfl
  · intro zero button
    exact expireTop_of_button top zero button s.params
  · intro zero boost dry absent
    exact expireTop_of_runOn_dry top zero boost dry absent s.params
  · intro left
    exact expireTop_of_time_left top left s.params

/-- Settles O21. -/
theorem climateSetTakesOneStep : Obligations.ClimateSetTakesOneStep := by
  unfold Obligations.ClimateSetTakesOneStep
  intro s e v served running known
  have taken := exec_climateTimerExpiry served running
  rw [evaluateClimate_of (v := v) (by simpa using known)] at taken
  have before : (passTime (minutes 10 - e) s).mst.climate = s.mst.climate := by
    rw [passTime_mst (powered_of_inService served)]; rfl
  refine ⟨_, _, taken, rfl, by rw [refreshLamps_mst], ?_⟩
  rw [refreshLamps_mst]
  dsimp only
  rw [before]
  refine ⟨fun c => ?_, fun c => ?_, fun c => ?_, fun c => ?_, fun c => ?_, fun c => ?_, fun c => ?_⟩ <;> rw [c]
  · exact (climateStep_normal v).1
  · exact (climateStep_normal v).2.1
  · exact (climateStep_normal v).2.2
  · exact (climateStep_cold v).1
  · exact (climateStep_cold v).2
  · exact (climateStep_mild v).1
  · exact (climateStep_mild v).2

end

section
/-! SUPPORT. The filter monitor beside the other blocks: what leaves its records alone, the save requests (R104), the FILTER
button and the filter change (R102, R103), and the record block read back (R170, R177). -/

namespace Sys2Proof.Machine
open Sys2Proof.Safety

/-! ### Frames -/

@[simp] theorem refreshLamps_flm (s : State) : (refreshLamps s).flm = s.flm := by
  obtain ⟨srf, e⟩ := refreshLamps_eq s; rw [e]

@[simp] theorem refreshLamps_mpt (s : State) : (refreshLamps s).mpt = s.mpt := by
  obtain ⟨srf, e⟩ := refreshLamps_eq s; rw [e]

@[simp] theorem markActive_flm (k : FaultKind) (s : State) : (markActive k s).flm = s.flm := by
  obtain ⟨srf, e⟩ := markActive_eq k s; rw [e]

/-- A filter record belongs to the filter monitor. -/
theorem filterRecord_of_flm {s t : State} (h : t.flm = s.flm) (f : Fan) : filterRecord t f = filterRecord s f := by
  simp [filterRecord, h]

@[simp] theorem filterRecord_refreshLamps (s : State) (f : Fan) : filterRecord (refreshLamps s) f = filterRecord s f :=
  filterRecord_of_flm (refreshLamps_flm s) f

theorem passTime_flm {s : State} (h : s.powered = true) (d : Nat) : (passTime d s).flm = s.flm.pass d := by
  simp [passTime, h]

/-- Time changes nothing of a filter record but its blocked timer. -/
theorem passTime_filterRecord {s : State} (h : s.powered = true) (d : Nat) (f : Fan) : filterRecord (passTime d s) f =
    { filterRecord s f with blocked := runTimer blockedTime d (filterRecord s f).blocked } := by
  rw [filterRecord, passTime_flm h]; cases f <;> rfl

@[simp] theorem passTime_locationKnown (d : Nat) (s : State) :
    (passTime d s).mpt.locationKnown = s.mpt.locationKnown := by
  unfold passTime; split <;> rfl

/-! ### Save requests (R104, R169) -/

/-- A save request changes the port and the fault set only. -/
theorem requestSave_eq (s : State) : ∃ mpt srf, requestSave s = { s with mpt := mpt, srf := srf } := by
  unfold requestSave
  split
  · exact ⟨s.mpt, s.srf, rfl⟩
  · split
    · exact ⟨_, s.srf, rfl⟩
    · obtain ⟨srf, e⟩ := markActive_eq .memoryWrite s; exact ⟨s.mpt, srf, e⟩
  · exact ⟨_, s.srf, rfl⟩

theorem requestSaves_eq (n : Nat) (s : State) : ∃ mpt srf, requestSaves n s = { s with mpt := mpt, srf := srf } := by
  induction n generalizing s with
  | zero => exact ⟨s.mpt, s.srf, rfl⟩
  | succ n ih =>
    obtain ⟨mpt, srf, first⟩ := requestSave_eq s
    obtain ⟨mpt', srf', later⟩ := ih (requestSave s)
    exact ⟨mpt', srf', by rw [requestSaves, later, first]⟩

@[simp] theorem requestSave_flm (s : State) : (requestSave s).flm = s.flm := by
  obtain ⟨mpt, srf, e⟩ := requestSave_eq s; rw [e]

@[simp] theorem requestSave_frg (s : State) : (requestSave s).frg = s.frg := by
  obtain ⟨mpt, srf, e⟩ := requestSave_eq s; rw [e]

@[simp] theorem requestSaves_flm (n : Nat) (s : State) : (requestSaves n s).flm = s.flm := by
  obtain ⟨mpt, srf, e⟩ := requestSaves_eq n s; rw [e]

/-- In an idle port with a place to write, a request begins a save of both records. -/
theorem requestSave_of_idle {s : State} (idle : s.mpt.state = .idle) (known : s.mpt.locationKnown = true) :
    requestSave s = beginSave s := by simp [requestSave, idle, known]

/-- In an idle port without one, a request fails at once. -/
theorem requestSave_of_unlocated {s : State} (idle : s.mpt.state = .idle) (unknown : s.mpt.locationKnown = false) :
    requestSave s = markActive .memoryWrite s := by simp [requestSave, idle, unknown]

/-- During a save, a request waits for its end. -/
theorem requestSave_of_saving {s : State} (saving : s.mpt.state = .saving) :
    requestSave s = { s with mpt := { s.mpt with savePending := true } } := by simp [requestSave, saving]

theorem requestSaves_saving {s : State} (saving : s.mpt.state = .saving) (n : Nat) :
    (requestSaves n s).mpt.state = .saving := by
  induction n generalizing s with
  | zero => exact saving
  | succ n ih => exact ih (by rw [requestSave_of_saving saving]; exact saving)

/-- Of several requests to an idle port with a place to write, the first begins a save. -/
theorem requestSaves_of_idle {s : State} (idle : s.mpt.state = .idle) (known : s.mpt.locationKnown = true) {n : Nat}
    (asked : 0 < n) : (requestSaves n s).mpt.state = .saving := by
  obtain ⟨k, rfl⟩ := Nat.exists_eq_add_of_lt asked
  rw [Nat.zero_add, requestSaves, requestSave_of_idle idle known]
  exact requestSaves_saving rfl k

/-! ### The FILTER button (R102) -/

/-- FILTER_DEBOUNCE_EXPIRY in service: time up to the debounce's end (log 2), the debounced state, and the hold timer, which
starts at a press that was not held down across the start. -/
theorem exec_filterDebounceExpiry {s : State} (served : inService s = true)
    (differs : s.flm.button.high ≠ s.flm.button.debouncedHigh) : ∃ t, exec .filterDebounceExpiry s = .next t ∧
      t.uptime = s.uptime + (millis 50 - s.flm.button.candidate) ∧
      t.flm.button = { s.flm.button.settle with heldAtStart := false } ∧
      t.flm.hold = if s.flm.button.high = false ∧ s.flm.button.heldAtStart = false then some 0 else none := by
  have on := powered_of_inService served
  have timed : exec .filterDebounceExpiry s =
      .next (refreshLamps (filterDebounced (passTime (millis 50 - s.flm.button.candidate) s))) := by
    refine (whenPowered_of _ s on).trans ?_
    rw [running_of_differs differs, atLimit_some]; rfl
  refine ⟨_, timed, (refreshLamps_uptime _).trans (passTime_uptime on _), ?_, ?_⟩
  · rw [refreshLamps_flm, filterDebounced, passTime_flm on, FilterMonitor.pass]
    dsimp only
    rw [settle_pass]
  · rw [refreshLamps_flm, filterDebounced, passTime_inService, served, passTime_flm on, FilterMonitor.pass]
    dsimp only
    rw [pass_high, pass_heldAtStart]
    cases s.flm.button.high <;> cases s.flm.button.heldAtStart <;> rfl

/-! ### The filter change (R103) -/

/-- The filter monitor after a filter change at the end of the hold (R102, R103). -/
def changedMonitor (m : FilterMonitor) : FilterMonitor :=
  { m with records := ⟨changedFilter m.records.sup, changedFilter m.records.ext⟩, lx := 0, hold := none }

/-- The part at a filter change, before it asks for the save. -/
def changedState (s : State) : State :=
  markInactive .filterBlocked { s with flm := changedMonitor s.flm, frg := { s.frg with iceIndex := 0 } }

theorem filterHeld_eq (s : State) : filterHeld s = requestSave (changedState s) := rfl

theorem filterHeld_flm (s : State) : (filterHeld s).flm = changedMonitor s.flm := requestSave_flm _

theorem filterHeld_iceIndex (s : State) : (filterHeld s).frg.iceIndex = 0 := by rw [filterHeld_eq, requestSave_frg]; rfl

theorem filterHeld_filterBlocked (s : State) : (faultRecord (filterHeld s) .filterBlocked).active = false := by
  rw [filterHeld_eq, requestSave_faultRecord _ _ (by simp)]
  exact markInactive_inactive _ _

/-- A filter change keeps of a record the flow of the evaluation before it only (log 16). -/
theorem filterRecord_filterHeld (s : State) (f : Fan) : filterRecord (filterHeld s) f =
    { FilterRecord.atPowerOn with previousFlow := (filterRecord s f).previousFlow } := by
  rw [filterRecord, filterHeld_flm]; cases f <;> rfl

/-- FILTER_HOLD_EXPIRY in service: time up to the hold's end, and then the filter change (log 2). -/
theorem exec_filterHoldExpiry {s : State} (served : inService s = true) {e : Nat} (running : s.flm.hold = some e) :
    exec .filterHoldExpiry s = .next (refreshLamps (filterHeld (passTime (seconds 5 - e) s))) := by
  refine (whenInService_of _ s served).trans ?_
  rw [running, atLimit_some]; rfl

/-! ### The record block (R170, R177) -/

/-- The sum byte makes the block sum to 0 (R170). -/
theorem byteSum_with_sumByte (bytes : List Byte) : byteSum (bytes ++ [0 - byteSum bytes]) = 0 := by
  have total : byteSum (bytes ++ [0 - byteSum bytes]) = byteSum bytes + (0 - byteSum bytes) := by
    simp only [byteSum, List.foldl_append, List.foldl_cons, List.foldl_nil]
  rw [total]; bv_omega

/-- A 16-bit value reads back from its two bytes (R177). -/
theorem wordOf_wordBytes {n : Nat} (h : n < 65536) : wordOf (BitVec.ofNat 8 (n / 256)) (BitVec.ofNat 8 n) = n := by
  simp [wordOf]; omega

/-- The codes of the filter states, in their order (R176). -/
theorem filterStateCode_names (st : FilterState) :
    [FilterState.unreferenced, .clean, .loading, .due, .overdue, .blocked][filterStateCode st]? = some st := by
  cases st <;> rfl

theorem filterStateCode_lt (st : FilterState) : filterStateCode st < 256 := by cases st <;> decide

/-- A reference value reads back from the word it is saved in, 0 standing for its absence (R177). -/
theorem reference_of_saved (v : Option Nat) (fits : ∀ n, v = some n → 0 < n ∧ n < 65536) :
    v.getD 0 < 65536 ∧ v = if v.getD 0 = 0 then none else some (v.getD 0) := by
  cases v with
  | none => exact ⟨by decide, rfl⟩
  | some n =>
    obtain ⟨present, small⟩ := fits n rfl
    exact ⟨small, (if_neg (by simp; omega)).symm⟩

/-- Byte `k` of what stands in an image after `before`. -/
theorem imageByte_append (before bytes : List Byte) (k : Nat) :
    imageByte (before ++ bytes) (before.length + k) = bytes.getD k 0 := by
  simp [imageByte, List.getD_eq_getElem?_getD, List.getElem?_append_right]

/-- A record that fits its places is taken up from its bytes wherever they stand in an image (R91, R177). -/
theorem recordTakenUp_of_bytes {r : FilterRecord} (fits : RecordFits r) (before after : List Byte) :
    RecordTakenUp (before ++ (recordBytes r ++ after)) before.length
      { r with runSeconds := 0, remainder := 0, blocked := none, capture := none } := by
  obtain ⟨dpFits, qFits, index, hours, volume, due⟩ := fits
  obtain ⟨dpSmall, dpBack⟩ := reference_of_saved r.dpRef dpFits
  obtain ⟨qSmall, qBack⟩ := reference_of_saved r.qRef qFits
  have byte := imageByte_append before (recordBytes r ++ after)
  have first := byte 0
  rw [Nat.add_zero] at first
  have word : ∀ k, imageWord (before ++ (recordBytes r ++ after)) (before.length + k) =
      wordOf ((recordBytes r ++ after).getD k 0) ((recordBytes r ++ after).getD (k + 1) 0) := fun k => by
    rw [imageWord, Nat.add_assoc, byte, byte]
  have code := filterStateCode_lt r.state
  constructor
  case state =>
    rw [first]
    simpa [recordBytes, Nat.mod_eq_of_lt code] using filterStateCode_names r.state
  case dpRef => rw [word]; exact (wordOf_wordBytes dpSmall).symm ▸ dpBack
  case qRef => rw [word]; exact (wordOf_wordBytes qSmall).symm ▸ qBack
  case index => rw [byte]; simp [recordBytes, wordBytes]; omega
  case runHours => rw [word]; exact (wordOf_wordBytes hours).symm
  case volume =>
    rw [byte, word]
    have low : wordOf (BitVec.ofNat 8 (r.volume % 65536 / 256)) (BitVec.ofNat 8 (r.volume % 65536)) = r.volume % 65536 :=
      wordOf_wordBytes (Nat.mod_lt _ (by decide))
    show r.volume = (BitVec.ofNat 8 (r.volume / 65536)).toNat * 65536 +
      wordOf (BitVec.ofNat 8 (r.volume % 65536 / 256)) (BitVec.ofNat 8 (r.volume % 65536))
    rw [low, BitVec.toNat_ofNat]; omega
  case hoursDue => rw [word]; exact (wordOf_wordBytes due).symm
  case counts => exact ⟨rfl, rfl⟩
  case timers => exact ⟨rfl, rfl⟩

theorem recordBlock_savesBothRecords : SavesBothRecords := by
  rintro r img rfl
  refine ⟨rfl, byteSum_with_sumByte _, fun fits => ?_, fun fits => ?_⟩
  · rw [recordBlock, List.append_assoc]
    exact recordTakenUp_of_bytes fits (List.replicate 226 0) _
  · rw [recordBlock, List.append_assoc, ← List.append_assoc]
    exact recordTakenUp_of_bytes fits (List.replicate 226 0 ++ recordBytes r.sup) _

end Sys2Proof.Machine
end

section
/-! SUPPORT. The operations on one filter record: the counts (R92), the states (R96, R97), the blocked timer (R98), the capture
qualification (R100, R101). -/

namespace Sys2Proof.Machine
open Sys2Proof.Safety

section
variable {p : Params} {f : Fan} {r : FilterRecord}

/-! ### The tests of the counts (R97) -/

theorem dueByCounts_iff : dueByCounts p r = true ↔ p.dueHours ≤ r.runHours ∨ p.dueVol ≤ r.volume := by simp [dueByCounts]

theorem testCounts_of_due (below : belowDue r.state = true) (full : p.dueHours ≤ r.runHours ∨ p.dueVol ≤ r.volume) :
    testCounts p r = (enterDue r, 1) := if_pos (by simp [below, dueByCounts_iff.2 full])

theorem testCounts_of_not (h : ¬ (belowDue r.state = true ∧ (p.dueHours ≤ r.runHours ∨ p.dueVol ≤ r.volume))) :
    testCounts p r = (r, 0) := if_neg (by simpa [dueByCounts_iff] using h)

/-- The tests of the counts change the state and the hours in DUE only. -/
theorem testCounts_eq (p : Params) (r : FilterRecord) :
    ∃ st hours, (testCounts p r).1 = { r with state := st, hoursDue := hours } := by
  unfold testCounts; split
  · exact ⟨_, _, rfl⟩
  · exact ⟨_, _, rfl⟩

theorem runHourRise_eq (p : Params) (r : FilterRecord) :
    ∃ st hours, (runHourRise p r).1 = { r with state := st, hoursDue := hours } := by
  unfold runHourRise testOverdue; split
  · split
    · exact ⟨_, _, rfl⟩
    · exact ⟨_, _, rfl⟩
  · exact testCounts_eq p r

/-- A run hour in DUE: the hours in DUE rise to 720 at most, and OVERDUE follows there. -/
theorem runHourRise_of_due (due : r.state = .due) : (runHourRise p r).1 =
    { r with
      hoursDue := min 720 (r.hoursDue + 1)
      state := if 720 ≤ r.hoursDue + 1 then .overdue else .due } := by
  rw [runHourRise, if_pos due, testOverdue]
  by_cases last : 720 ≤ r.hoursDue + 1
  · rw [if_pos ⟨due, by simp [dueHoursLimit, last]⟩, if_pos last]; rfl
  · rw [if_neg (by simp [dueHoursLimit]; omega), if_neg last, ← due]; rfl

theorem runHourRise_of_other (other : r.state ≠ .due) : runHourRise p r = testCounts p r := if_neg other

theorem not_due_of_below (below : belowDue r.state = true) : r.state ≠ .due := fun due => by simp [due, belowDue] at below

/-! ### The counts (R92) -/

theorem rollVolume_of_partial (h : r.remainder < 10000) : rollVolume p r = (r, 0) := if_pos h

theorem rollVolume_of_full (full : 10000 ≤ r.remainder) (room : r.volume < 16777215) : rollVolume p r =
    testCounts p { r with remainder := r.remainder - 10000, volume := r.volume + 1 } := by
  rw [rollVolume, if_neg (by omega), if_pos room]

theorem rollHour_of_partial (h : r.runSeconds < 3600) : rollHour p f r = (r, 0) := if_pos h

theorem rollHour_of_full (full : 3600 ≤ r.runSeconds) (room : r.runHours < 65535) : rollHour p f r =
    ((runHourRise p { r with runSeconds := 0, runHours := r.runHours + 1 }).1,
      (runHourRise p { r with runSeconds := 0, runHours := r.runHours + 1 }).2 + cadenceSave f (r.runHours + 1)) := by
  rw [rollHour, if_neg (by omega), if_pos room]

/-- A full remainder goes over into the volume, which stops at its end. -/
theorem rollVolume_eq (p : Params) (r : FilterRecord) : ∃ st hours, (rollVolume p r).1 =
    { r with
      state := st
      hoursDue := hours
      remainder := if r.remainder < 10000 then r.remainder else r.remainder - 10000
      volume := if 10000 ≤ r.remainder ∧ r.volume < 16777215 then r.volume + 1 else r.volume } := by
  by_cases few : r.remainder < 10000
  · rw [rollVolume_of_partial few, if_pos few, if_neg (by omega)]; exact ⟨_, _, rfl⟩
  by_cases room : r.volume < 16777215
  · rw [rollVolume_of_full (by omega) room, if_neg few, if_pos ⟨by omega, room⟩]; exact testCounts_eq _ _
  · rw [rollVolume, if_neg few, if_neg room, if_neg few, if_neg (by omega)]; exact ⟨_, _, rfl⟩

/-- A full run hour goes over into the run hours, which stop at their end. -/
theorem rollHour_eq (p : Params) (f : Fan) (r : FilterRecord) : ∃ st hours, (rollHour p f r).1 =
    { r with
      state := st
      hoursDue := hours
      runSeconds := if r.runSeconds < 3600 then r.runSeconds else 0
      runHours := if 3600 ≤ r.runSeconds ∧ r.runHours < 65535 then r.runHours + 1 else r.runHours } := by
  by_cases few : r.runSeconds < 3600
  · rw [rollHour_of_partial few, if_pos few, if_neg (by omega)]; exact ⟨_, _, rfl⟩
  by_cases room : r.runHours < 65535
  · rw [rollHour_of_full (by omega) room, if_neg few, if_pos ⟨by omega, room⟩]; exact runHourRise_eq _ _
  · rw [rollHour, if_neg few, if_neg room, if_neg few, if_neg (by omega)]; exact ⟨_, _, rfl⟩

variable {q : Nat}

theorem countSecond_of_still (r : FilterRecord) (still : q = 0) : countSecond p f q r = (r, 0) := if_pos still

/-- A second of running: what it adds to the volume, and then what it adds to the run time. -/
theorem countSecond_of_running (r : FilterRecord) (runs : q ≠ 0) : (countSecond p f q r).1 = (rollHour p f
    { (rollVolume p { r with remainder := r.remainder + q }).1 with
      runSeconds := (rollVolume p { r with remainder := r.remainder + q }).1.runSeconds + 1 }).1 := by
  rw [countSecond, if_neg runs]

/-- What a second of running leaves of the counts, full or not. -/
theorem countSecond_eq (p : Params) (f : Fan) (r : FilterRecord) (runs : q ≠ 0) : ∃ st hours, (countSecond p f q r).1 =
    { r with
      state := st
      hoursDue := hours
      remainder := if r.remainder + q < 10000 then r.remainder + q else r.remainder + q - 10000
      volume := if 10000 ≤ r.remainder + q ∧ r.volume < 16777215 then r.volume + 1 else r.volume
      runSeconds := if r.runSeconds + 1 < 3600 then r.runSeconds + 1 else 0
      runHours := if 3600 ≤ r.runSeconds + 1 ∧ r.runHours < 65535 then r.runHours + 1 else r.runHours } := by
  obtain ⟨_, _, volume⟩ := rollVolume_eq p { r with remainder := r.remainder + q }
  rw [countSecond_of_running r runs, volume]
  exact rollHour_eq _ _ _

/-- A second that fills no cubic metre and no run hour moves the remainder and the run seconds only. -/
theorem countSecond_of_partial (p : Params) (f : Fan) (part : r.remainder + q < 10000) (hour : r.runSeconds + 1 < 3600) :
    ∃ remainder runSeconds, (countSecond p f q r).1 = { r with remainder := remainder, runSeconds := runSeconds } := by
  by_cases still : q = 0
  · rw [countSecond_of_still r still]; exact ⟨_, _, rfl⟩
  · rw [countSecond_of_running r still, rollVolume_of_partial part, rollHour_of_partial hour]; exact ⟨_, _, rfl⟩

/-- A cubic metre that brings the volume to its limit, or finds the run hours there, brings the record to DUE. -/
theorem countSecond_due_by_volume (f : Fan) (runs : q ≠ 0) (full : 10000 ≤ r.remainder + q) (room : r.volume < 16777215)
    (hour : r.runSeconds + 1 < 3600) (below : belowDue r.state = true)
    (limit : p.dueHours ≤ r.runHours ∨ p.dueVol ≤ r.volume + 1) :
    (countSecond p f q r).1.state = .due ∧ (countSecond p f q r).1.hoursDue = 0 := by
  rw [countSecond_of_running r runs, rollVolume_of_full (by exact full) (by exact room),
    testCounts_of_due (by exact below) (by exact limit), rollHour_of_partial (by exact hour)]
  exact ⟨rfl, rfl⟩

/-- A second that fills a run hour alone leaves the record as the rise of the run hours does. -/
theorem countSecond_of_hour (p : Params) (f : Fan) (runs : q ≠ 0) (part : r.remainder + q < 10000)
    (full : 3600 ≤ r.runSeconds + 1) (room : r.runHours < 65535) : (countSecond p f q r).1 =
      (runHourRise p { r with remainder := r.remainder + q, runSeconds := 0, runHours := r.runHours + 1 }).1 := by
  rw [countSecond_of_running r runs, rollVolume_of_partial (by exact part), rollHour_of_full (by exact full) (by exact room)]

/-! ### The index update (R94 to R98) -/

/-- The blocked timer's test changes that timer only. -/
theorem qualifyBlocked_eq (p : Params) (r : FilterRecord) : ∃ timer, qualifyBlocked p r = { r with blocked := timer } := by
  unfold qualifyBlocked; split
  · exact ⟨_, rfl⟩
  · exact ⟨_, rfl⟩

/-- The state test at an index update changes the state and the hours in DUE only. -/
theorem indexState_eq (p : Params) (r : FilterRecord) :
    ∃ st hours, (indexState p r).1 = { r with state := st, hoursDue := hours } := by
  unfold indexState; repeat' split
  all_goals exact ⟨_, _, rfl⟩

theorem updateIndex_eq (p : Params) (i : Nat) (r : FilterRecord) : ∃ st hours timer, (updateIndex p i r).1 =
    { r with state := st, hoursDue := hours, blocked := timer, index := i } := by
  obtain ⟨st, hours, moved⟩ := indexState_eq p { r with index := i }
  obtain ⟨timer, qualified⟩ := qualifyBlocked_eq p { r with state := st, hoursDue := hours, index := i }
  refine ⟨st, hours, timer, ?_⟩
  rw [updateIndex, indexTests, moved]; exact qualified

/-- The state test alone says where an index update leaves the state and the hours in DUE. -/
theorem updateIndex_state (p : Params) (i : Nat) (r : FilterRecord) :
    (updateIndex p i r).1.state = (indexState p { r with index := i }).1.state ∧
      (updateIndex p i r).1.hoursDue = (indexState p { r with index := i }).1.hoursDue := by
  obtain ⟨timer, qualified⟩ := qualifyBlocked_eq p (indexState p { r with index := i }).1
  rw [updateIndex, indexTests, qualified]; exact ⟨rfl, rfl⟩

variable {i : Nat}

/-- DUE by the index (R97). -/
theorem updateIndex_of_due (below : belowDue r.state = true) (due : p.dueIdx ≤ i) :
    (updateIndex p i r).1.state = .due ∧ (updateIndex p i r).1.hoursDue = 0 := by
  obtain ⟨state, hours⟩ := updateIndex_state p i r
  rw [state, hours, indexState, if_pos ⟨by exact below, by exact due⟩]
  exact ⟨rfl, rfl⟩

/-- CLEAN and LOADING by the index (R96). -/
theorem updateIndex_of_clean (clean : r.state = .clean) (low : i < p.dueIdx) :
    (updateIndex p i r).1.state = if 16 ≤ i then .loading else .clean := by
  rw [(updateIndex_state p i r).1, indexState, if_neg (fun due => Nat.not_le.2 low due.2)]
  by_cases loaded : 16 ≤ i <;> simp [clean, loaded]

theorem updateIndex_of_loading (loading : r.state = .loading) (low : i < p.dueIdx) :
    (updateIndex p i r).1.state = if i < 8 then .clean else .loading := by
  rw [(updateIndex_state p i r).1, indexState, if_neg (fun due => Nat.not_le.2 low due.2)]
  by_cases light : i < 8 <;> simp [loading, light]

/-- From DUE on the index moves no state (R97). -/
theorem updateIndex_of_latched (latched : belowDue r.state = false) :
    (updateIndex p i r).1.state = r.state ∧ (updateIndex p i r).1.hoursDue = r.hoursDue := by
  obtain ⟨state, hours⟩ := updateIndex_state p i r
  have notClean : r.state ≠ .clean := fun clean => by simp [clean, belowDue] at latched
  have notLoading : r.state ≠ .loading := fun loading => by simp [loading, belowDue] at latched
  rw [state, hours, indexState, if_neg (by simp [latched]), if_neg (by simp [notClean]), if_neg (by simp [notLoading])]
  exact ⟨rfl, rfl⟩

/-- The blocked timer at an index update of a referenced record that is not BLOCKED (R98). -/
theorem updateIndex_blocked (referenced : r.referenced = true) (notBlocked : r.state ≠ .blocked)
    (notUnreferenced : r.state ≠ .unreferenced) :
    (updateIndex p i r).1.blocked = if p.blockIdx ≤ i then some (r.blocked.getD 0) else none := by
  have moved : (indexState p { r with index := i }).1.state ≠ .blocked ∧
      (indexState p { r with index := i }).1.state ≠ .unreferenced := by
    unfold indexState; repeat' split
    all_goals simp_all [enterDue]
  obtain ⟨st, hours, e⟩ := indexState_eq p { r with index := i }
  rw [e] at moved
  rw [updateIndex, indexTests, e, qualifyBlocked, if_pos]
  have still : ({ r with index := i, state := st, hoursDue := hours } : FilterRecord).referenced = true := referenced
  simp [still, moved.1, moved.2]

/-! ### The capture qualification (R100, R101) -/

variable {fanRec : FanRecord} {dp : Option Int} {free : Bool}

theorem qualifyCapture_of_referenced (h : r.referenced = true) :
    (qualifyCapture p fanRec dp free r).1 = { r with capture := none } := by rw [qualifyCapture, if_pos h]

/-- Where a capture condition fails, the qualification breaks. -/
theorem qualifyCapture_of_broken (unreferenced : r.referenced = false)
    (broken : captureConditions p fanRec dp free r = false) :
    (qualifyCapture p fanRec dp free r).1 = { r with capture := none } := by
  rw [qualifyCapture, if_neg (by simp [unreferenced]), if_neg (by simp [broken])]

theorem qualifyCapture_starts (unreferenced : r.referenced = false)
    (holds : captureConditions p fanRec dp free r = true) (stopped : r.capture = none) :
    (qualifyCapture p fanRec dp free r).1 = { r with capture := some 0 } := by
  rw [qualifyCapture, if_neg (by simp [unreferenced]), if_pos holds, stopped]

theorem qualifyCapture_runs (unreferenced : r.referenced = false)
    (holds : captureConditions p fanRec dp free r = true) {n : Nat} (running : r.capture = some n) (early : n + 1 < 60) :
    (qualifyCapture p fanRec dp free r).1 = { r with capture := some (n + 1) } := by
  rw [qualifyCapture, if_neg (by simp [unreferenced]), if_pos holds, running]
  exact congrArg Prod.fst (if_neg (by simp [captureSeconds]; omega))

theorem qualifyCapture_attempts (unreferenced : r.referenced = false)
    (holds : captureConditions p fanRec dp free r = true) {n : Nat} (running : r.capture = some n) (last : 60 ≤ n + 1) :
    (qualifyCapture p fanRec dp free r).1 = (attemptCapture (dp.getD 0).toNat fanRec.commanded r).1 := by
  rw [qualifyCapture, if_neg (by simp [unreferenced]), if_pos holds, running]
  exact congrArg Prod.fst (if_pos last)

/-- A capture takes the reference; a record that was UNREFERENCED begins CLEAN (R101). -/
theorem attemptCapture_of_enough {v : Nat} (enough : 5 ≤ v) (q : Nat) (r : FilterRecord) : (attemptCapture v q r).1 =
    { r with
      dpRef := some v
      qRef := some q
      capture := none
      state := if r.state = .unreferenced then .clean else r.state
      index := if r.state = .unreferenced then 0 else r.index } := by rw [attemptCapture, if_pos enough]

/-- Below 5 Pa the qualification starts again (R101). -/
theorem attemptCapture_of_low {v : Nat} (low : v < 5) (q : Nat) (r : FilterRecord) :
    (attemptCapture v q r).1 = { r with capture := some 0 } := by rw [attemptCapture, if_neg (by omega)]

/-! ### What the index update and the capture qualification leave of the counts -/

/-- The counts of volume and run time stand, and so does a state of DUE or above with its hours in DUE. -/
structure CountsStand (r t : FilterRecord) : Prop where
  remainder : t.remainder = r.remainder
  volume : t.volume = r.volume
  runSeconds : t.runSeconds = r.runSeconds
  runHours : t.runHours = r.runHours
  latched : belowDue r.state = false → t.state = r.state ∧ t.hoursDue = r.hoursDue

theorem CountsStand.refl (r : FilterRecord) : CountsStand r r := ⟨rfl, rfl, rfl, rfl, fun _ => ⟨rfl, rfl⟩⟩

theorem countsStand_capture (r : FilterRecord) (timer : Option Nat) : CountsStand r { r with capture := timer } :=
  ⟨rfl, rfl, rfl, rfl, fun _ => ⟨rfl, rfl⟩⟩

theorem CountsStand.trans {a b c : FilterRecord} (h : CountsStand a b) (k : CountsStand b c) : CountsStand a c where
  remainder := k.remainder.trans h.remainder
  volume := k.volume.trans h.volume
  runSeconds := k.runSeconds.trans h.runSeconds
  runHours := k.runHours.trans h.runHours
  latched late := by
    obtain ⟨state, hours⟩ := h.latched late
    obtain ⟨state', hours'⟩ := k.latched (by rw [state]; exact late)
    exact ⟨state'.trans state, hours'.trans hours⟩

theorem updateIndex_countsStand (p : Params) (i : Nat) (r : FilterRecord) : CountsStand r (updateIndex p i r).1 := by
  obtain ⟨st, hours, timer, e⟩ := updateIndex_eq p i r
  exact ⟨by rw [e], by rw [e], by rw [e], by rw [e], updateIndex_of_latched⟩

theorem attemptCapture_countsStand (v q : Nat) (r : FilterRecord) : CountsStand r (attemptCapture v q r).1 := by
  by_cases enough : 5 ≤ v
  · rw [attemptCapture_of_enough enough]
    refine ⟨rfl, rfl, rfl, rfl, fun late => ⟨if_neg fun unreferenced => ?_, rfl⟩⟩
    simp [unreferenced, belowDue] at late
  · rw [attemptCapture_of_low (by omega)]; exact countsStand_capture r _

theorem qualifyCapture_countsStand (p : Params) (fanRec : FanRecord) (dp : Option Int) (free : Bool) (r : FilterRecord) :
    CountsStand r (qualifyCapture p fanRec dp free r).1 := by
  cases unreferenced : r.referenced with
  | true => rw [qualifyCapture_of_referenced unreferenced]; exact countsStand_capture r _
  | false =>
    cases holds : captureConditions p fanRec dp free r with
    | false => rw [qualifyCapture_of_broken unreferenced holds]; exact countsStand_capture r _
    | true =>
      cases running : r.capture with
      | none => rw [qualifyCapture_starts unreferenced holds running]; exact countsStand_capture r _
      | some n =>
        rcases Nat.lt_or_ge (n + 1) 60 with early | last
        · rw [qualifyCapture_runs unreferenced holds running early]; exact countsStand_capture r _
        · rw [qualifyCapture_attempts unreferenced holds running last]; exact attemptCapture_countsStand _ _ r

end

end Sys2Proof.Machine
end

section
/-! SUPPORT. The filter evaluation (R89) as what it leaves of each record, of LX and of the ice index, and the state that the
fan drive hands over to it (R39). -/

namespace Sys2Proof.Machine
open Sys2Proof.Safety

/-! ### The four parts of a path's evaluation -/

/-- The record after the first part (R92). -/
def countedRecord (s : State) (f : Fan) : FilterRecord :=
  (countSecond s.params f (fan s f).commanded (filterRecord s f)).1

/-- The path index of this evaluation, where there is one (R93). -/
def evaluatedIndex (s : State) (f : Fan) : Option Nat :=
  newIndex s.params (fan s f) (channelValue s (pressureChannel f)) (countedRecord s f)

/-- The record after the second and third part: F_EXT is held while ice is possible (R94 to R98). -/
def indexedRecord (s : State) (f : Fan) : FilterRecord :=
  match evaluatedIndex s f with
  | none => countedRecord s f
  | some i => if iceFree s f then (updateIndex s.params i (countedRecord s f)).1 else countedRecord s f

/-- The record after all four parts (R89). -/
def evaluatedRecord (s : State) (f : Fan) : FilterRecord :=
  { (qualifyCapture s.params (fan s f) (channelValue s (pressureChannel f)) (iceFree s f) (indexedRecord s f)).1 with
    previousFlow := some (fan s f).commanded }

/-- The ice index after the evaluation of the extract path (R66). -/
def evaluatedIceIndex (s : State) : Nat :=
  match evaluatedIndex s .ext with
  | none => s.frg.iceIndex
  | some i => if s.frg.icePossible then min 255 (i - (countedRecord s .ext).index) else 0

theorem setFilter_setFilter (s : State) (f : Fan) (a b : FilterRecord) :
    setFilter (setFilter s f a) f b = setFilter s f b := by cases f <;> rfl

/-- The second part works the index out from the record that the first part has set. -/
theorem newIndex_setFilter (s : State) {f : Fan} {ch : Channel} (path : pressureChannel f = ch) :
    newIndex (setFilter s f (countedRecord s f)).params (fan (setFilter s f (countedRecord s f)) f)
      (channelValue (setFilter s f (countedRecord s f)) ch) (filterRecord (setFilter s f (countedRecord s f)) f) =
        evaluatedIndex s f := by
  subst path
  rw [filterRecord_setFilter]; rfl

/-- A path with an index has a reference (R93). -/
theorem referenced_of_newIndex {p : Params} {fanRec : FanRecord} {dp : Option Int} {r : FilterRecord} {i : Nat}
    (h : newIndex p fanRec dp r = some i) : r.referenced = true := by
  unfold newIndex at h
  split at h
  · next dpRef qRef => simp [FilterRecord.referenced, dpRef, qRef]
  · cases h

theorem evaluateSupplyIndex_counted (s : State) :
    (evaluateSupplyIndex (setFilter s .sup (countedRecord s .sup))).1 = setFilter s .sup (indexedRecord s .sup) := by
  unfold evaluateSupplyIndex indexedRecord
  rw [newIndex_setFilter s (ch := .pSupf) rfl]
  cases evaluatedIndex s .sup with
  | none => rfl
  | some i => rfl

/-- The evaluation of the supply path. -/
theorem evaluatePath_sup (s : State) : (evaluatePath .sup s).1 = setFilter s .sup (evaluatedRecord s .sup) := by
  have parts : (evaluatePath .sup s).1 =
      (capturePath .sup (evaluateSupplyIndex (setFilter s .sup (countedRecord s .sup))).1).1 := rfl
  rw [parts, evaluateSupplyIndex_counted]
  exact setFilter_setFilter s .sup _ _

/-- What the index of the extract path moves (R66, R95). -/
def extractIndexed (s : State) (r : FilterRecord) : State :=
  setFilter { s with
    flm := { s.flm with lx := (evaluatedIndex s .ext).getD s.flm.lx }
    frg := { s.frg with iceIndex := evaluatedIceIndex s } } .ext r

theorem evaluateExtractIndex_counted (s : State) :
    (evaluateExtractIndex (setFilter s .ext (countedRecord s .ext))).1 = extractIndexed s (indexedRecord s .ext) := by
  unfold evaluateExtractIndex extractIndexed indexedRecord evaluatedIceIndex
  rw [newIndex_setFilter s (ch := .pExt) rfl]
  cases found : evaluatedIndex s .ext with
  | none => rfl
  | some i =>
    have referenced : (countedRecord s .ext).referenced = true := referenced_of_newIndex found
    cases ice : s.frg.icePossible <;>
      simp [iceFree, iceIndexOf, setFilter, ice, PerFan.set, filterRecord, PerFan.get, referenced]

/-- The evaluation of the extract path. -/
theorem evaluatePath_ext (s : State) : (evaluatePath .ext s).1 = extractIndexed s (evaluatedRecord s .ext) := by
  have parts : (evaluatePath .ext s).1 =
      (capturePath .ext (evaluateExtractIndex (setFilter s .ext (countedRecord s .ext))).1).1 := rfl
  rw [parts, evaluateExtractIndex_counted]
  exact setFilter_setFilter _ .ext _ _

/-- The filter evaluation: both records, LX and the ice index, with the saves it asks for. -/
theorem evaluateFilters_eq (s : State) : ∃ mpt srf, evaluateFilters s = { s with
    flm := { s.flm with
      records := ⟨evaluatedRecord s .sup, evaluatedRecord s .ext⟩
      lx := (evaluatedIndex s .ext).getD s.flm.lx }
    frg := { s.frg with iceIndex := evaluatedIceIndex s }
    mpt := mpt
    srf := srf } := by
  obtain ⟨mpt, srf, e⟩ := requestSaves_eq ((evaluatePath .sup s).2 + (evaluatePath .ext (evaluatePath .sup s).1).2)
    (evaluatePath .ext (evaluatePath .sup s).1).1
  refine ⟨mpt, srf, ?_⟩
  rw [evaluateFilters, e, evaluatePath_ext, evaluatePath_sup]
  rfl

/-! ### The hand-over of the fan drive's evaluation (R39) -/

@[simp] theorem guardFlows_flm (appears : Bool) (s : State) : (guardFlows appears s).flm = s.flm := by
  obtain ⟨fdr, e⟩ := guardFlows_eq appears s; rw [e]

@[simp] theorem settleFan_flm (f : Fan) (s : State) : (settleFan f s).flm = s.flm := by
  unfold settleFan; dsimp only; split <;> rfl

@[simp] theorem stallFan_flm (f : Fan) (s : State) : (stallFan f s).flm = s.flm := by
  unfold stallFan; dsimp only; split
  · rw [markActive_flm, setFan_flm]
  · rfl

/-- The fan drive's own evaluation leaves the filter monitor alone. -/
theorem evaluateFans_flm (s : State) : (evaluateFans s).flm = s.flm := by
  have driven : (driveFans s).flm = s.flm := rfl
  unfold evaluateFans updateFanStates stallFans; dsimp only; split <;> simp [driven]

/-- The flag set afresh breaks F_EXT's capture qualification, and a flag that is set already leaves the filter monitor alone
(R65, R100). -/
theorem iceCauseHolds_flm (s : State) : (iceCauseHolds s).flm = s.flm ∨
    ((iceCauseHolds s).frg.icePossible = true ∧ (iceCauseHolds s).flm =
      { s.flm with records := s.flm.records.set .ext { s.flm.records.ext with capture := none } }) := by
  cases set : s.frg.icePossible with
  | true => left; simp [iceCauseHolds, set]
  | false => right; simp only [iceCauseHolds, set]; exact ⟨rfl, rfl⟩

/-- Availability touches the filter monitor only where its loss moves PREHEAT to REDUCE and makes ice possible (R65, R73). -/
theorem refreshAvailability_flm (s : State) : (refreshAvailability s).flm = s.flm ∨
    ((refreshAvailability s).frg.icePossible = true ∧ (refreshAvailability s).flm =
      { s.flm with records := s.flm.records.set .ext { s.flm.records.ext with capture := none } }) := by
  have reduced : ∀ t : State, moveTo .reduce t =
      iceCauseHolds { t with frg := { t.frg with state := .reduce, fullPower := none } } := fun _ => rfl
  have withdrawn := iceCauseHolds_flm { s with frg :=
    { stopHeat { s.frg with available := false } with state := .reduce, fullPower := none } }
  unfold refreshAvailability
  split
  · split
    · exact .inl rfl
    · unfold withdrawPreheater; dsimp only
      split
      · rw [reduced]; exact withdrawn
      · exact .inl rfl
  · exact .inl rfl

theorem breakCapture_other (f : Fan) (s : State) :
    filterRecord (breakCapture f s) (otherFan f) = filterRecord s (otherFan f) := by
  unfold breakCapture; split
  · rfl
  · cases f <;> rfl

theorem breakCapture_own (f : Fan) (s : State) : filterRecord (breakCapture f s) f =
    if (fan s f).state = .settled then filterRecord s f else { filterRecord s f with capture := none } := by
  unfold breakCapture; split
  · rfl
  · exact filterRecord_setFilter _ _ _

theorem filterRecord_breakCaptures (s : State) (f : Fan) : filterRecord (breakCaptures s) f =
    if (fan s f).state = .settled then filterRecord s f else { filterRecord s f with capture := none } := by
  cases f with
  | sup => exact (breakCapture_other .ext _).trans (breakCapture_own .sup s)
  | ext =>
    have supply : filterRecord (breakCapture .sup s) .ext = filterRecord s .ext := breakCapture_other .sup s
    rw [breakCaptures, breakCapture_own, supply, fan_of_fdr (breakCapture_fdr .sup s)]

theorem breakCaptures_lx (s : State) : (breakCaptures s).flm.lx = s.flm.lx := by
  have one : ∀ f t, (breakCapture f t).flm.lx = t.flm.lx := fun f t => by unfold breakCapture; split <;> rfl
  exact (one _ _).trans (one _ _)

/-- What reaches the filter evaluation of a state before a fan-loop evaluation: the records but for a broken capture
qualification. -/
structure HandsOver (s u : State) : Prop where
  params : u.params = s.params
  value : ∀ ch, channelValue u ch = channelValue s ch
  lx : u.flm.lx = s.flm.lx
  record : ∀ f, ∃ timer, filterRecord u f = { filterRecord s f with capture := timer }
  qualifying : ∀ f, (fan u f).state = .settled → iceFree u f = true → filterRecord u f = filterRecord s f

theorem fansChanged_handsOver (s : State) : HandsOver s (fansChanged s) := by
  have kept := fansChanged_kept s
  have broken := filterRecord_breakCaptures s
  have timers : ∀ f, ∃ timer, filterRecord (breakCaptures s) f = { filterRecord s f with capture := timer } := fun f => by
    rw [broken]; split
    · exact ⟨_, rfl⟩
    · exact ⟨_, rfl⟩
  have whole : ∀ f, (fan (fansChanged s) f).state = .settled → filterRecord (breakCaptures s) f = filterRecord s f :=
    fun f settled => by rw [broken, if_pos (fansChanged_fan s f ▸ settled)]
  rcases refreshAvailability_flm (breakCaptures s) with same | ⟨ice, held⟩
  · have record : ∀ f, filterRecord (fansChanged s) f = filterRecord (breakCaptures s) f := filterRecord_of_flm same
    exact ⟨kept.params, kept.channelValue, (congrArg FilterMonitor.lx same).trans (breakCaptures_lx s),
      fun f => by rw [record]; exact timers f, fun f settled _ => by rw [record]; exact whole f settled⟩
  · have supply : filterRecord (fansChanged s) .sup = filterRecord (breakCaptures s) .sup := by
      rw [filterRecord, fansChanged, held]; rfl
    have extract : filterRecord (fansChanged s) .ext = { filterRecord (breakCaptures s) .ext with capture := none } := by
      rw [filterRecord, fansChanged, held]; rfl
    refine ⟨kept.params, kept.channelValue, (congrArg FilterMonitor.lx held).trans (breakCaptures_lx s), fun f => ?_,
      fun f settled free => ?_⟩
    · cases f with
      | sup => rw [supply]; exact timers .sup
      | ext => obtain ⟨timer, e⟩ := timers .ext; rw [extract, e]; exact ⟨none, rfl⟩
    · cases f with
      | sup => rw [supply]; exact whole .sup settled
      | ext =>
        have clear : (fansChanged s).frg.icePossible = false := by simpa [iceFree] using free
        rw [fansChanged, ice] at clear; cases clear

/-- The state that the fan drive hands over: its evaluation made, and what follows from it at the other blocks. -/
def handedOver (s : State) : State := fansChanged (evaluateFans s)

theorem handedOver_handsOver (s : State) : HandsOver s (handedOver s) := by
  have kept := evaluateFans_kept s
  obtain ⟨params, value, lx, record, qualifying⟩ := fansChanged_handsOver (evaluateFans s)
  have same : ∀ f, filterRecord (evaluateFans s) f = filterRecord s f := filterRecord_of_flm (evaluateFans_flm s)
  rw [handedOver]
  constructor
  case params => rw [params, kept.params]
  case value => intro ch; rw [value, kept.channelValue]
  case lx => rw [lx, evaluateFans_flm]
  case record => intro f; rw [← same]; exact record f
  case qualifying => intro f; rw [← same]; exact qualifying f

/-- What a fan-loop evaluation leaves, in terms of the state handed over to the filter evaluation. -/
structure FiltersEvaluated (u t : State) : Prop where
  fan : ∀ f, fan t f = fan u f
  record : ∀ f, filterRecord t f = evaluatedRecord u f
  lx : t.flm.lx = (evaluatedIndex u .ext).getD u.flm.lx
  icePossible : t.frg.icePossible = u.frg.icePossible
  iceIndex : t.frg.iceIndex = evaluatedIceIndex u

/-- A fan-loop evaluation leaves the filter monitor and the frost guard as its filter evaluation does. -/
theorem fanEvaluate_flm (s : State) : (fanEvaluate s).flm = (evaluateFilters (handedOver s)).flm := by
  simp only [fanEvaluate, handedOver]

theorem fanEvaluate_frg (s : State) : (fanEvaluate s).frg = (evaluateFilters (handedOver s)).frg := by
  simp only [fanEvaluate, handedOver]

theorem fanEvaluate_filtersEvaluated (s : State) : FiltersEvaluated (handedOver s) (refreshLamps (fanEvaluate s)) := by
  obtain ⟨mpt, srf, e⟩ := evaluateFilters_eq (handedOver s)
  have filters := (refreshLamps_flm _).trans (fanEvaluate_flm s)
  have frost := (refreshLamps_frg _).trans (fanEvaluate_frg s)
  rw [e] at filters frost
  constructor
  case fan =>
    intro f
    rw [fan_of_fdr (refreshLamps_fdr _), fanEvaluate_fan, handedOver, fansChanged_fan]
  case record => intro f; rw [filterRecord, filters]; cases f <;> rfl
  case lx => rw [filters]
  case icePossible => rw [frost]
  case iceIndex => rw [frost]

/-- FAN_EVALUATION in service: time up to the end of the fan-loop period (log 2), the fan drive's evaluation, and the filter
evaluation on what it hands over. -/
theorem exec_fanEvaluation {s : State} (served : inService s = true) {e : Nat} (running : s.fdr.timer = some e) :
    ∃ u t, exec .fanEvaluation s = .next t ∧ HandsOver (passTime (seconds 1 - e) s) u ∧ FiltersEvaluated u t := by
  have taken : exec .fanEvaluation s = .next (refreshLamps (fanEvaluate (passTime (seconds 1 - e) s))) := by
    refine (whenInService_of _ s served).trans ?_
    rw [running, atLimit_some]; rfl
  exact ⟨_, _, taken, handedOver_handsOver _, fanEvaluate_filtersEvaluated _⟩

/-! ### The counts of the evaluated record (R92, R97) -/

theorem indexedRecord_countsStand (s : State) (f : Fan) : CountsStand (countedRecord s f) (indexedRecord s f) := by
  unfold indexedRecord; split
  · exact CountsStand.refl _
  · split
    · exact updateIndex_countsStand _ _ _
    · exact CountsStand.refl _

/-- The evaluation leaves the counts as its first part does. -/
theorem evaluatedRecord_countsStand (s : State) (f : Fan) : CountsStand (countedRecord s f) (evaluatedRecord s f) := by
  obtain ⟨remainder, volume, runSeconds, runHours, latched⟩ := (indexedRecord_countsStand s f).trans
    (qualifyCapture_countsStand s.params (fan s f) (channelValue s (pressureChannel f)) (iceFree s f) (indexedRecord s f))
  exact ⟨remainder, volume, runSeconds, runHours, latched⟩

section
variable {s : State} {f : Fan} {r : FilterRecord} {q : Nat} {blocked capture : Option Nat}

theorem evaluatedRecord_counts_of_still (record : filterRecord s f = { r with blocked := blocked, capture := capture })
    (still : (fan s f).commanded = 0) :
    (evaluatedRecord s f).remainder = r.remainder ∧ (evaluatedRecord s f).volume = r.volume ∧
      (evaluatedRecord s f).runSeconds = r.runSeconds ∧ (evaluatedRecord s f).runHours = r.runHours := by
  obtain ⟨remainder, volume, runSeconds, runHours, -⟩ := evaluatedRecord_countsStand s f
  rw [remainder, volume, runSeconds, runHours, countedRecord, record, countSecond_of_still _ still]
  exact ⟨rfl, rfl, rfl, rfl⟩

theorem evaluatedRecord_counts (record : filterRecord s f = { r with blocked := blocked, capture := capture })
    (flow : (fan s f).commanded = q) (runs : q ≠ 0) :
    (evaluatedRecord s f).remainder = (if r.remainder + q < 10000 then r.remainder + q else r.remainder + q - 10000) ∧
    (evaluatedRecord s f).volume =
      (if 10000 ≤ r.remainder + q ∧ r.volume < 16777215 then r.volume + 1 else r.volume) ∧
    (evaluatedRecord s f).runSeconds = (if r.runSeconds + 1 < 3600 then r.runSeconds + 1 else 0) ∧
    (evaluatedRecord s f).runHours =
      (if 3600 ≤ r.runSeconds + 1 ∧ r.runHours < 65535 then r.runHours + 1 else r.runHours) := by
  obtain ⟨remainder, volume, runSeconds, runHours, -⟩ := evaluatedRecord_countsStand s f
  obtain ⟨st, hours, counted⟩ := countSecond_eq s.params f { r with blocked := blocked, capture := capture } runs
  rw [remainder, volume, runSeconds, runHours, countedRecord, record, flow, counted]
  exact ⟨rfl, rfl, rfl, rfl⟩

/-- A state of DUE or above that the first part leaves stands at the end of the evaluation. -/
theorem evaluatedRecord_of_latched {st : FilterState} (latched : belowDue st = false)
    (state : (countedRecord s f).state = st) :
    (evaluatedRecord s f).state = st ∧ (evaluatedRecord s f).hoursDue = (countedRecord s f).hoursDue := by
  rw [← state]
  exact (evaluatedRecord_countsStand s f).latched (by rw [state]; exact latched)

theorem evaluatedRecord_due_by_volume (record : filterRecord s f = { r with blocked := blocked, capture := capture })
    (flow : (fan s f).commanded = q) (runs : q ≠ 0) (full : 10000 ≤ r.remainder + q) (room : r.volume < 16777215)
    (hour : r.runSeconds + 1 < 3600) (below : belowDue r.state = true)
    (limit : s.params.dueHours ≤ r.runHours ∨ s.params.dueVol ≤ r.volume + 1) :
    (evaluatedRecord s f).state = .due ∧ (evaluatedRecord s f).hoursDue = 0 := by
  obtain ⟨due, zero⟩ := countSecond_due_by_volume (p := s.params) (r := filterRecord s f) f runs (by rw [record]; exact full)
    (by rw [record]; exact room) (by rw [record]; exact hour) (by rw [record]; exact below) (by rw [record]; exact limit)
  rw [← flow] at due zero
  obtain ⟨state, hours⟩ := evaluatedRecord_of_latched rfl due
  exact ⟨state, hours.trans zero⟩

variable (record : filterRecord s f = { r with blocked := blocked, capture := capture }) (flow : (fan s f).commanded = q)
  (runs : q ≠ 0) (part : r.remainder + q < 10000) (full : 3600 ≤ r.runSeconds + 1) (room : r.runHours < 65535)
include record flow runs part full room

theorem countedRecord_of_hour : countedRecord s f = (runHourRise s.params
    { r with
      blocked := blocked
      capture := capture
      remainder := r.remainder + q
      runSeconds := 0
      runHours := r.runHours + 1 }).1 := by
  rw [countedRecord, record, flow, countSecond_of_hour s.params f runs (by exact part) (by exact full) (by exact room)]

theorem evaluatedRecord_hour_in_due (due : r.state = .due) :
    (evaluatedRecord s f).hoursDue = min 720 (r.hoursDue + 1) ∧
      (evaluatedRecord s f).state = if 720 ≤ r.hoursDue + 1 then .overdue else .due := by
  have counted := countedRecord_of_hour record flow runs part full room
  rw [runHourRise_of_due (by exact due)] at counted
  obtain ⟨state, hours⟩ := evaluatedRecord_of_latched (by split <;> rfl) (congrArg FilterRecord.state counted)
  exact ⟨hours.trans (congrArg FilterRecord.hoursDue counted), state⟩

theorem evaluatedRecord_due_by_hour (below : belowDue r.state = true)
    (limit : s.params.dueHours ≤ r.runHours + 1 ∨ s.params.dueVol ≤ r.volume) :
    (evaluatedRecord s f).state = .due ∧ (evaluatedRecord s f).hoursDue = 0 := by
  have counted := countedRecord_of_hour record flow runs part full room
  rw [runHourRise_of_other (by exact not_due_of_below below), testCounts_of_due (by exact below) (by exact limit)] at counted
  obtain ⟨state, hours⟩ := evaluatedRecord_of_latched rfl (congrArg FilterRecord.state counted)
  exact ⟨state, hours.trans (congrArg FilterRecord.hoursDue counted)⟩

end

/-! ### The counts found at their limits (log 4) -/

theorem filterRecord_onRecord (f : Fan) (op : FilterRecord → FilterRecord × Nat) (s : State) :
    filterRecord (onRecord f op s) f = (op (filterRecord s f)).1 := by
  rw [onRecord, filterRecord_of_flm (requestSaves_flm _ _), filterRecord_setFilter]

theorem exec_volumeRollover {s : State} (served : inService s = true) (f : Fan) :
    exec (.volumeRollover f) s = .next (refreshLamps (onRecord f (rollVolume s.params) s)) := whenInService_of _ s served

theorem exec_runHourRollover {s : State} (served : inService s = true) (f : Fan) :
    exec (.runHourRollover f) s = .next (refreshLamps (onRecord f (rollHour s.params f) s)) := whenInService_of _ s served

theorem exec_dueHoursExpiry {s : State} (served : inService s = true) (f : Fan) :
    exec (.dueHoursExpiry f) s = .next (refreshLamps (onRecord f testOverdue s)) := whenInService_of _ s served

/-- An operation that asks for a save begins one in an idle port with a place to write (R169). -/
theorem onRecord_saves {f : Fan} {op : FilterRecord → FilterRecord × Nat} {s : State} (idle : s.mpt.state = .idle)
    (known : s.mpt.locationKnown = true) (asked : 0 < (op (filterRecord s f)).2) :
    (onRecord f op s).mpt.state = .saving := requestSaves_of_idle (by exact idle) (by exact known) asked

/-- F_SUP's run hours at a multiple of 24 ask for a save (R104). -/
theorem rollHour_asks {p : Params} {r : FilterRecord} (full : 3600 ≤ r.runSeconds) (room : r.runHours < 65535)
    (cadence : (r.runHours + 1) % 24 = 0) : 0 < (rollHour p .sup r).2 := by
  rw [rollHour_of_full full room]; simp [cadenceSave, cadence]

end Sys2Proof.Machine
end

section
/-! SUPPORT. The index and the capture qualification at an evaluation that fills no cubic metre and no run hour (R93 to R101),
and the ends of the blocked timer and of the capture qualification. -/

namespace Sys2Proof.Machine
open Sys2Proof.Safety

/-! ### The conditions of an index and of a capture (R93, R100) -/

/-- The fan, its flow and its pressure channel allow an index and a capture (R93, R100). -/
def pathMeasurable (s : State) (f : Fan) : Bool :=
  measurable s.params (fan s f) && (channelValue s (pressureChannel f)).isSome

theorem pathMeasurable_iff {s : State} {f : Fan} : pathMeasurable s f = true ↔ (fan s f).state = .settled ∧
    s.params.qMeasMin ≤ (fan s f).commanded ∧ (channelValue s (pressureChannel f)).isSome = true := by
  simp [pathMeasurable, measurable, and_assoc]

/-- F_EXT is held while ice is possible (R95). -/
theorem iceFree_false_iff {s : State} {f : Fan} : iceFree s f = false ↔ f = .ext ∧ s.frg.icePossible = true := by
  cases f <;> simp [iceFree]

section
variable {s : State} {f : Fan}

/-- The index of a path that meets the conditions of R93. -/
theorem evaluatedIndex_of {dp a b : Nat} (measurable : pathMeasurable s f = true)
    (value : channelValue s (pressureChannel f) = some (dp : Int)) (dpRef : (countedRecord s f).dpRef = some a)
    (qRef : (countedRecord s f).qRef = some b) : evaluatedIndex s f = some (pathIndex dp a b (fan s f).commanded) := by
  simp [pathMeasurable, value] at measurable
  simp [evaluatedIndex, newIndex, measurable, value, dpRef, qRef]

theorem evaluatedIndex_of_unmeasurable (unmeasurable : pathMeasurable s f = false) : evaluatedIndex s f = none := by
  unfold evaluatedIndex newIndex
  split
  · next settled value _ _ => simp [pathMeasurable, settled, value] at unmeasurable
  · rfl

theorem evaluatedIndex_of_unreferenced (unreferenced : (countedRecord s f).referenced = false) :
    evaluatedIndex s f = none := by
  cases found : evaluatedIndex s f with
  | none => rfl
  | some i => rw [referenced_of_newIndex found] at unreferenced; cases unreferenced

theorem indexedRecord_of_none (absent : evaluatedIndex s f = none) : indexedRecord s f = countedRecord s f := by
  rw [indexedRecord, absent]

theorem indexedRecord_of_held (held : iceFree s f = false) : indexedRecord s f = countedRecord s f := by
  rw [indexedRecord]; split
  · rfl
  · exact if_neg (by simp [held])

theorem indexedRecord_of_free {i : Nat} (found : evaluatedIndex s f = some i) (free : iceFree s f = true) :
    indexedRecord s f = (updateIndex s.params i (countedRecord s f)).1 := by
  rw [indexedRecord, found]; exact if_pos free

/-- No index update takes the reference away or brings one. -/
theorem indexedRecord_reference (s : State) (f : Fan) : (indexedRecord s f).dpRef = (countedRecord s f).dpRef ∧
    (indexedRecord s f).qRef = (countedRecord s f).qRef := by
  unfold indexedRecord; split
  · exact ⟨rfl, rfl⟩
  · split
    · next i _ _ =>
        obtain ⟨_, _, _, updated⟩ := updateIndex_eq s.params i (countedRecord s f)
        rw [updated]; exact ⟨rfl, rfl⟩
    · exact ⟨rfl, rfl⟩

/-- A referenced record is left by the evaluation as its index leaves it, with no capture qualification (R100). -/
theorem evaluatedRecord_of_referenced (referenced : (countedRecord s f).referenced = true) : evaluatedRecord s f =
    { indexedRecord s f with capture := none, previousFlow := some (fan s f).commanded } := by
  obtain ⟨dpRef, qRef⟩ := indexedRecord_reference s f
  have still : (indexedRecord s f).referenced = true := by
    rw [FilterRecord.referenced, dpRef, qRef]; exact referenced
  rw [evaluatedRecord, qualifyCapture_of_referenced still]

/-- An unreferenced record has no index, and its capture qualification follows the counts. -/
theorem evaluatedRecord_of_unreferenced (unreferenced : (countedRecord s f).referenced = false) : evaluatedRecord s f =
    { (qualifyCapture s.params (fan s f) (channelValue s (pressureChannel f)) (iceFree s f) (countedRecord s f)).1 with
      previousFlow := some (fan s f).commanded } := by
  rw [evaluatedRecord, indexedRecord_of_none (evaluatedIndex_of_unreferenced unreferenced)]

theorem captureConditions_iff {r : FilterRecord} :
    captureConditions s.params (fan s f) (channelValue s (pressureChannel f)) (iceFree s f) r = true ↔
      pathMeasurable s f = true ∧ iceFree s f = true ∧ r.previousFlow = some (fan s f).commanded := by
  simp [captureConditions, pathMeasurable, and_assoc]

end

/-! ### An evaluation that fills no cubic metre and no run hour -/

/-- The record after the first part of such an evaluation. -/
theorem countedRecord_of_partial {u : State} {f : Fan} {r : FilterRecord} {timer : Option Nat}
    (record : filterRecord u f = { r with capture := timer }) (part : r.remainder + (fan u f).commanded < 10000)
    (hour : r.runSeconds + 1 < 3600) : ∃ remainder runSeconds, countedRecord u f =
      { r with capture := timer, remainder := remainder, runSeconds := runSeconds } := by
  rw [countedRecord, record]
  exact countSecond_of_partial u.params f (r := { r with capture := timer }) part hour

section
variable {u : State} {f : Fan} {r : FilterRecord} {timer : Option Nat} {remainder runSeconds : Nat}
  (counted : countedRecord u f = { r with capture := timer, remainder := remainder, runSeconds := runSeconds })
include counted

theorem evaluatedRecord_keeps_reference (referenced : r.referenced = true) : (evaluatedRecord u f).capture = none ∧
    (evaluatedRecord u f).dpRef = r.dpRef ∧ (evaluatedRecord u f).qRef = r.qRef := by
  obtain ⟨dpRef, qRef⟩ := indexedRecord_reference u f
  rw [evaluatedRecord_of_referenced (by rw [counted]; exact referenced)]
  exact ⟨rfl, dpRef.trans (by rw [counted]), qRef.trans (by rw [counted])⟩

/-- Without an index update the record keeps its index, its state and its blocked timer (R93, R95). -/
theorem evaluatedRecord_keeps_index (referenced : r.referenced = true) (left : indexedRecord u f = countedRecord u f) :
    (evaluatedRecord u f).index = r.index ∧ (evaluatedRecord u f).state = r.state ∧
      (evaluatedRecord u f).blocked = r.blocked := by
  rw [evaluatedRecord_of_referenced (by rw [counted]; exact referenced), left, counted]
  exact ⟨rfl, rfl, rfl⟩

/-- An index update of a referenced record (R94 to R98). -/
theorem evaluatedRecord_takes_index {i : Nat} (referenced : r.referenced = true) (found : evaluatedIndex u f = some i)
    (free : iceFree u f = true) :
    (evaluatedRecord u f).index = i ∧
    (belowDue r.state = true → u.params.dueIdx ≤ i →
      (evaluatedRecord u f).state = .due ∧ (evaluatedRecord u f).hoursDue = 0) ∧
    (r.state = .clean → i < u.params.dueIdx → (evaluatedRecord u f).state = if 16 ≤ i then .loading else .clean) ∧
    (r.state = .loading → i < u.params.dueIdx → (evaluatedRecord u f).state = if i < 8 then .clean else .loading) ∧
    (belowDue r.state = false → (evaluatedRecord u f).state = r.state) ∧
    (r.state ≠ .blocked → r.state ≠ .unreferenced →
      (evaluatedRecord u f).blocked = if u.params.blockIdx ≤ i then some (r.blocked.getD 0) else none) := by
  have same : (countedRecord u f).referenced = true := by rw [counted]; exact referenced
  have state : (countedRecord u f).state = r.state := by rw [counted]
  have blocked : (countedRecord u f).blocked = r.blocked := by rw [counted]
  obtain ⟨_, _, _, updated⟩ := updateIndex_eq u.params i (countedRecord u f)
  rw [evaluatedRecord_of_referenced same, indexedRecord_of_free found free]
  simp only [← state, ← blocked]
  exact ⟨by rw [updated], updateIndex_of_due, updateIndex_of_clean, updateIndex_of_loading,
    fun latched => (updateIndex_of_latched latched).1, updateIndex_blocked same⟩

/-- A broken capture condition stops the qualification (R100). -/
theorem evaluatedRecord_breaks_capture (unreferenced : r.referenced = false)
    (broken : ¬ (pathMeasurable u f = true ∧ iceFree u f = true ∧ r.previousFlow = some (fan u f).commanded)) :
    (evaluatedRecord u f).capture = none ∧ (evaluatedRecord u f).dpRef = r.dpRef := by
  have same : (countedRecord u f).referenced = false := by rw [counted]; exact unreferenced
  have fails : captureConditions u.params (fan u f) (channelValue u (pressureChannel f)) (iceFree u f)
      (countedRecord u f) = false := by
    rw [← Bool.not_eq_true, captureConditions_iff, counted]; exact broken
  rw [evaluatedRecord_of_unreferenced same, qualifyCapture_of_broken same fails, counted]
  exact ⟨rfl, rfl⟩

/-- The capture qualification while its conditions hold, from its start to the capture (R100, R101). -/
theorem evaluatedRecord_qualifies {dp : Nat} (unreferenced : r.referenced = false)
    (holds : pathMeasurable u f = true ∧ iceFree u f = true ∧ r.previousFlow = some (fan u f).commanded)
    (value : channelValue u (pressureChannel f) = some (dp : Int)) :
    (timer = none → (evaluatedRecord u f).capture = some 0 ∧ (evaluatedRecord u f).dpRef = r.dpRef) ∧
    (∀ n, timer = some n → n + 1 < 60 →
      (evaluatedRecord u f).capture = some (n + 1) ∧ (evaluatedRecord u f).dpRef = r.dpRef) ∧
    (∀ n, timer = some n → 60 ≤ n + 1 →
      (5 ≤ dp → (evaluatedRecord u f).dpRef = some dp ∧ (evaluatedRecord u f).qRef = some (fan u f).commanded ∧
        (evaluatedRecord u f).capture = none ∧
        (r.state = .unreferenced → (evaluatedRecord u f).state = .clean ∧ (evaluatedRecord u f).index = 0) ∧
        (r.state ≠ .unreferenced → (evaluatedRecord u f).state = r.state)) ∧
      (dp < 5 → (evaluatedRecord u f).capture = some 0 ∧ (evaluatedRecord u f).dpRef = r.dpRef)) := by
  have same : (countedRecord u f).referenced = false := by rw [counted]; exact unreferenced
  have qualifies : captureConditions u.params (fan u f) (channelValue u (pressureChannel f)) (iceFree u f)
      (countedRecord u f) = true := by
    rw [captureConditions_iff, counted]; exact holds
  have capture : (countedRecord u f).capture = timer := by rw [counted]
  have pressure : ((channelValue u (pressureChannel f)).getD 0).toNat = dp := by rw [value]; rfl
  rw [evaluatedRecord_of_unreferenced same]
  refine ⟨fun stopped => ?_, fun n running early => ?_, fun n running last => ⟨fun enough => ?_, fun low => ?_⟩⟩
  · rw [qualifyCapture_starts same qualifies (capture.trans stopped), counted]; exact ⟨rfl, rfl⟩
  · rw [qualifyCapture_runs same qualifies (capture.trans running) early, counted]; exact ⟨rfl, rfl⟩
  · rw [qualifyCapture_attempts same qualifies (capture.trans running) last, pressure, attemptCapture_of_enough enough,
      counted]
    exact ⟨rfl, rfl, rfl, fun fresh => ⟨if_pos fresh, if_pos fresh⟩, fun old => if_neg old⟩
  · rw [qualifyCapture_attempts same qualifies (capture.trans running) last, pressure, attemptCapture_of_low low, counted]
    exact ⟨rfl, rfl⟩

end

/-! ### The ends of the blocked timer and of the capture qualification (R98, R99, R101) -/

/-- BLOCKED_TIMER_EXPIRY in service: time up to the timer's end (log 2), and the entry to BLOCKED. -/
theorem exec_blockedTimerExpiry {s : State} (served : inService s = true) {f : Fan} {e : Nat}
    (running : (filterRecord s f).blocked = some e) : exec (.blockedTimerExpiry f) s =
      .next (refreshLamps (enterBlocked f (passTime (seconds 600 - e) s))) := by
  refine (whenInService_of _ s served).trans ?_
  rw [running, atLimit_some]; rfl

theorem filterRecord_enterBlocked (f : Fan) (s : State) : filterRecord (enterBlocked f s) f =
    { filterRecord s f with state := .blocked, blocked := none } := by
  rw [enterBlocked, filterRecord_of_flm (requestSave_flm _), filterRecord_of_flm (markActive_flm _ _),
    filterRecord_setFilter]

theorem enterBlocked_active (f : Fan) (s : State) : (faultRecord (enterBlocked f s) .filterBlocked).active = true := by
  rw [enterBlocked, requestSave_faultRecord _ _ (by simp)]
  exact markActive_active _ _

/-- CAPTURE_QUALIFICATION_EXPIRY in service, on an unreferenced record whose qualification stands at its end (log 4). -/
theorem exec_captureQualificationExpiry {s : State} (served : inService s = true) {f : Fan} {e dp : Nat}
    (running : (filterRecord s f).capture = some e) (last : 60 ≤ e) (unreferenced : (filterRecord s f).referenced = false)
    (value : channelValue s (pressureChannel f) = some (dp : Int)) : exec (.captureQualificationExpiry f) s =
      .next (refreshLamps (onRecord f (attemptCapture dp (fan s f).commanded) s)) := by
  refine (whenInService_of _ s served).trans ?_
  rw [captureAtLimit, running, value]
  dsimp only
  rw [if_pos ⟨last, by simp [unreferenced]⟩]; rfl

end Sys2Proof.Machine
end

section
/-! The statements of the filter monitor. -/

open Sys2Proof.Machine Sys2Proof.Safety

/-- Settles O30: the counts after an evaluation by what the second fills, and then the three counts found at their limits. -/
theorem filterCountsRollOver : Obligations.FilterCountsRollOver := by
  unfold Obligations.FilterCountsRollOver
  refine ⟨?_, ?_⟩
  · rintro s f r e served running rfl
    obtain ⟨u, t, taken, hands, filters⟩ := exec_fanEvaluation served running
    obtain ⟨timer, record⟩ := hands.record f
    rw [passTime_filterRecord (powered_of_inService served)] at record
    have params : u.params = s.params := hands.params.trans (passTime_params _ s)
    refine ⟨t, _, _, taken, rfl, rfl, ?_⟩
    rw [filters.fan, filters.record, ← params]
    refine ⟨evaluatedRecord_counts_of_still record, fun runs => ?_⟩
    obtain ⟨remainder, volume, runSeconds, runHours⟩ := evaluatedRecord_counts record rfl runs
    rw [remainder, volume, runSeconds, runHours]
    refine ⟨fun part => ?_, fun full => ?_, fun part => ?_, fun full => ?_,
      evaluatedRecord_due_by_volume record rfl runs, fun full room part => ⟨?_, ?_⟩⟩
    · exact ⟨if_pos part, if_neg (fun full => Nat.not_le.2 part full.1)⟩
    · exact ⟨if_neg (Nat.not_lt.2 full), by simp [full]⟩
    · exact ⟨if_pos part, if_neg (fun full => Nat.not_le.2 part full.1)⟩
    · exact ⟨if_neg (Nat.not_lt.2 full), by simp [full]⟩
    · exact evaluatedRecord_hour_in_due record rfl runs part full room
    · exact evaluatedRecord_due_by_hour record rfl runs part full room
  · rintro s f r served rfl
    refine ⟨fun full room => ?_, fun full room => ?_, fun due last => ?_⟩
    · refine ⟨_, exec_volumeRollover served f, ?_⟩
      rw [filterRecord_refreshLamps, filterRecord_onRecord, rollVolume_of_full full room]
      split
      · next limit => rw [testCounts_of_due (by exact limit.1) (by exact limit.2)]; rfl
      · next other => rw [testCounts_of_not (by exact other)]
    · refine ⟨_, exec_runHourRollover served f, ?_⟩
      rw [filterRecord_refreshLamps, filterRecord_onRecord, refreshLamps_mpt]
      refine ⟨fun due => ?_, fun below limit => ?_, fun other hours volume => ?_, fun supply cadence idle known => ?_⟩
      · rw [rollHour_of_full full room, runHourRise_of_due (by exact due)]
      · rw [rollHour_of_full full room, runHourRise_of_other (by exact not_due_of_below below),
          testCounts_of_due (by exact below) (by exact limit)]
        rfl
      · rw [rollHour_of_full full room, runHourRise_of_other (by exact other), testCounts_of_not (by dsimp only; omega)]
      · subst supply
        exact onRecord_saves idle known (rollHour_asks full room cadence)
    · refine ⟨_, exec_dueHoursExpiry served f, ?_⟩
      rw [filterRecord_refreshLamps, filterRecord_onRecord, testOverdue, if_pos ⟨due, last⟩]

/-- Settles O31: the index and the capture qualification of the record that the evaluation counts, and then the two timers at
their ends. -/
theorem blockedFilterAndReferenceCapture : Obligations.BlockedFilterAndReferenceCapture := by
  unfold Obligations.BlockedFilterAndReferenceCapture
  refine ⟨?_, ?_⟩
  · rintro s f r e served running recorded
    obtain ⟨u, t, taken, hands, filters⟩ := exec_fanEvaluation served running
    have params : u.params = s.params := hands.params.trans (passTime_params _ s)
    have value : channelValue u (pressureChannel f) = channelValue s (pressureChannel f) :=
      (hands.value _).trans (passTime_channelValue _ s _)
    have lx : u.flm.lx = s.flm.lx := by rw [hands.lx, passTime_flm (powered_of_inService served)]; rfl
    obtain ⟨timer, record⟩ := hands.record f
    rw [← recorded] at record
    refine ⟨t, _, _, pathMeasurable u f, !iceFree u f, taken, rfl, rfl, ?_⟩
    rw [filters.fan, filters.record, filters.icePossible, filters.iceIndex, ← params, ← value]
    refine ⟨pathMeasurable_iff, ?_, rfl, fun part hour => ?_⟩
    · rw [Bool.not_eq_true', iceFree_false_iff]
    obtain ⟨remainder, runSeconds, counted⟩ := countedRecord_of_partial record part hour
    refine ⟨fun dp a b i measurable pressure dpRef qRef index => ?_, fun unmeasurable referenced => ?_,
      evaluatedRecord_keeps_reference counted,
      fun unreferenced => ⟨fun broken => ?_, fun dp measurable free flow pressure => ?_⟩⟩
    · have referenced : r.referenced = true := by simp [FilterRecord.referenced, dpRef, qRef]
      have found : evaluatedIndex u f = some i := by
        rw [evaluatedIndex_of measurable pressure (by rw [counted]; exact dpRef) (by rw [counted]; exact qRef), index]; rfl
      refine ⟨fun extract => ?_, fun held => ?_, fun free => ?_⟩
      · subst extract; rw [filters.lx, found]; rfl
      · have ice : iceFree u f = false := by simpa using held
        obtain ⟨extract, possible⟩ := iceFree_false_iff.1 ice
        subst extract
        obtain ⟨kept, state, blocked⟩ := evaluatedRecord_keeps_index counted referenced (indexedRecord_of_held ice)
        refine ⟨kept, state, blocked, ?_⟩
        rw [evaluatedIceIndex, found, counted]; exact if_pos possible
      · exact evaluatedRecord_takes_index counted referenced found (by simpa using free)
    · have absent := evaluatedIndex_of_unmeasurable unmeasurable
      obtain ⟨index, state, blocked⟩ := evaluatedRecord_keeps_index counted referenced (indexedRecord_of_none absent)
      refine ⟨index, state, blocked, fun extract => ?_⟩
      subst extract; rw [filters.lx, absent, Option.getD_none, lx]
    · refine evaluatedRecord_breaks_capture counted unreferenced ?_
      rintro ⟨measurable, free, flow⟩
      rcases broken with unmeasurable | held | other
      · rw [measurable] at unmeasurable; cases unmeasurable
      · rw [free] at held; cases held
      · exact other flow
    · have unheld : iceFree u f = true := by simpa using free
      have whole := hands.qualifying f (pathMeasurable_iff.1 measurable).1 unheld
      have kept : timer = r.capture := by
        rw [← recorded, record] at whole; exact congrArg FilterRecord.capture whole
      subst kept
      exact evaluatedRecord_qualifies counted unreferenced ⟨measurable, unheld, flow⟩ pressure
  · rintro s f r e served rfl
    refine ⟨fun running => ?_, fun dp running last unreferenced pressure => ?_⟩
    · have on := powered_of_inService served
      refine ⟨_, exec_blockedTimerExpiry served running, ?_, ?_, ?_⟩
      · rw [refreshLamps_uptime, (enterBlocked_kept f _).uptime, passTime_uptime on]
      · rw [filterRecord_refreshLamps, filterRecord_enterBlocked, passTime_filterRecord on]
      · rw [faultRecord_refreshLamps, enterBlocked_active]
    · refine ⟨_, exec_captureQualificationExpiry served running last unreferenced pressure, fun enough => ?_, fun low => ?_⟩
      · rw [filterRecord_refreshLamps, filterRecord_onRecord, attemptCapture_of_enough enough]
      · rw [filterRecord_refreshLamps, filterRecord_onRecord, attemptCapture_of_low low]

/-- Settles O32: the record block, the button pressed and released, and the filter change with its save by the state of the
port. -/
theorem filterButtonAndFilterChange : Obligations.FilterButtonAndFilterChange := by
  unfold Obligations.FilterButtonAndFilterChange
  refine ⟨recordBlock_savesBothRecords, fun s e h served => ⟨fun pressed => ?_, fun released => ?_, fun running => ?_⟩⟩
  · obtain ⟨t, taken, time, button, hold⟩ := exec_filterDebounceExpiry served (by simp [pressed])
    rw [pressed] at time button hold
    exact ⟨t, taken, time, hold, button⟩
  · obtain ⟨t, taken, -, button, hold⟩ := exec_filterDebounceExpiry served (by simp [released])
    rw [released] at button hold
    exact ⟨t, taken, hold, button⟩
  · have on := powered_of_inService served
    refine ⟨_, exec_filterHoldExpiry served running, ?_, ?_, fun f => ?_, ?_, ?_, ?_, fun idle known => ?_,
      fun idle unknown => ?_, fun saving => ?_⟩
    · rw [refreshLamps_uptime, filterHeld_eq, (requestSave_kept _).uptime]; exact passTime_uptime on _
    · rw [refreshLamps_flm, filterHeld_flm]; rfl
    · rw [filterRecord_refreshLamps, filterRecord_filterHeld, passTime_filterRecord on]
    · rw [refreshLamps_flm, filterHeld_flm]; rfl
    · rw [refreshLamps_frg, filterHeld_iceIndex]
    · rw [faultRecord_refreshLamps, filterHeld_filterBlocked]
    · rw [refreshLamps_mpt, refreshLamps_flm, filterHeld_eq,
        requestSave_of_idle (by exact (passTime_portState _ s).trans idle)
          (by exact (passTime_locationKnown _ s).trans known)]
      exact ⟨rfl, rfl⟩
    · rw [refreshLamps_mpt, faultRecord_refreshLamps, filterHeld_eq,
        requestSave_of_unlocated (by exact (passTime_portState _ s).trans idle)
          (by exact (passTime_locationKnown _ s).trans unknown)]
      refine ⟨?_, markActive_active _ _⟩
      obtain ⟨srf, marked⟩ := markActive_eq .memoryWrite (changedState (passTime (seconds 5 - e) s))
      rw [marked]
      exact (passTime_portState _ s).trans idle
    · rw [refreshLamps_mpt, filterHeld_eq, requestSave_of_saving (by exact (passTime_portState _ s).trans saving)]

end

section
/-! SUPPORT. The humidity evaluator (chapter 6): the ring and RISE, the rules on their operands, what an evaluation leaves of
each part of the evaluator, and what the requests it hands over make of the mode stack. -/

namespace Sys2Proof.Machine

/-! ### The ring and RISE (R108, R109) -/

/-- The sample just written is the newest one. -/
theorem newestSample_writeRing (sample : Option Int) (m : Humidity) : newestSample (writeRing sample m) = sample := by
  have back : m.writeIndex + 1 - 1 = m.writeIndex := by grind
  simp only [newestSample, writeRing, back, Fin.getElem_fin, Vector.getElem_set_self]

theorem riseOf_some {newest oldest : Option Int} {a b : Int} (h : newest = some a) (k : oldest = some b) :
    riseOf newest oldest = some (a - b) := by rw [h, k]; rfl

theorem riseOf_none {newest oldest : Option Int} (h : newest = none ∨ oldest = none) : riseOf newest oldest = none := by
  rcases h with rfl | rfl
  · rfl
  · cases newest <;> rfl

/-! ### The dewpoints (R110) -/

theorem dewpointOf_some {t rh : Option Int} {a b : Int} (h : t = some a) (k : rh = some b) :
    dewpointOf t rh = some (a - (1000 - limitInt 200 1000 b).tdiv 5) := by rw [h, k]; rfl

theorem dewpointOf_none_right {rh : Option Int} (h : rh = none) (t : Option Int) : dewpointOf t rh = none := by
  rw [h]; cases t <;> rfl

/-! ### The rules (R111, R114) -/

/-- A mask is a set of outcomes, and the three outcomes exclude each other. -/
theorem outcomeInMask_iff (r : Rule) (a b : Int) : outcomeInMask r a b = true ↔
    (a < b ∧ r.less = true) ∨ (a = b ∧ r.equal = true) ∨ (b < a ∧ r.greater = true) := by
  rcases Int.lt_trichotomy a b with less | rfl | greater
  · have differ : ¬ a = b := Int.ne_of_lt less
    have below : ¬ b < a := Int.not_lt.2 (Int.le_of_lt less)
    simp only [outcomeInMask, less, differ, below, ↓reduceIte, true_and, false_and, or_false]
  · have level : ¬ a < a := Int.lt_irrefl a
    simp only [outcomeInMask, level, ↓reduceIte, true_and, false_and, or_false, false_or]
  · have differ : ¬ a = b := Int.ne_of_gt greater
    have above : ¬ a < b := Int.not_lt.2 (Int.le_of_lt greater)
    simp only [outcomeInMask, greater, differ, above, ↓reduceIte, true_and, false_and, false_or]

theorem ruleTrue_iff (r : Rule) (left right : Option Int) : ruleTrue r left right = true ↔
    ∃ a b, left = some a ∧ right = some b ∧ outcomeInMask r a (b + r.offset) = true := by
  cases left <;> cases right <;> simp [ruleTrue]

/-- A rule reads the operands and nothing else of the evaluator. -/
theorem ruleHolds_congr {m n : Humidity} {tOut : Option Int} (h : operandValue m tOut = operandValue n tOut) (p : Params)
    (i : Fin 4) : ruleHolds p tOut m i = ruleHolds p tOut n i := by
  rw [ruleHolds, ruleHolds, h]

/-! ### The evaluator after an evaluation -/

theorem humidityAfter_timer (s : State) : (humidityAfter s).timer = some 0 := rfl

theorem humidityAfter_ring (s : State) :
    (humidityAfter s).ring = s.hev.ring.set s.hev.writeIndex (channelValue s .rhEta) := rfl

theorem humidityAfter_writeIndex (s : State) : (humidityAfter s).writeIndex = s.hev.writeIndex + 1 := rfl

/-- RISE is worked out after the write, and the oldest sample is then the one at the write index (R109). -/
theorem humidityAfter_rise (s : State) : (humidityAfter s).rise =
    riseOf (channelValue s .rhEta) (humidityAfter s).ring[(humidityAfter s).writeIndex] :=
  congrArg (riseOf · _) (newestSample_writeRing (channelValue s .rhEta) s.hev)

theorem humidityAfter_tdEta (s : State) :
    (humidityAfter s).tdEta = dewpointOf (channelValue s .tEta) (channelValue s .rhEta) := rfl

theorem humidityAfter_tdOut (s : State) : (humidityAfter s).tdOut = dewpointOf s.odr.tOut s.odr.rhOut := rfl

/-- The rules are tested after the operands are worked out, and the tests leave the operands as they are (R114). -/
theorem humidityAfter_counters (s : State) (i : Fin 4) : (humidityAfter s).counters[i] =
    if ruleHolds s.params s.odr.tOut (humidityAfter s) i then min s.params.rules[i].n (s.hev.counters[i] + 1) else 0 := by
  have operands : ∀ m : Humidity, operandValue m s.odr.tOut =
      operandValue (formRequests s.params (testRules s.params s.odr.tOut m)) s.odr.tOut := fun m => by
    funext o; cases o <;> rfl
  rw [humidityAfter, ← ruleHolds_congr (operands _)]
  exact Vector.getElem_ofFn _

theorem humidityAfter_boost (s : State) : (humidityAfter s).boost =
    ((ruleAsserted s.params (humidityAfter s) 0 || ruleAsserted s.params (humidityAfter s) 1) &&
      !ruleAsserted s.params (humidityAfter s) 3) := rfl

theorem humidityAfter_dry (s : State) : (humidityAfter s).dry = ruleAsserted s.params (humidityAfter s) 2 := rfl

@[simp] theorem passTime_rhOut (d : Nat) (s : State) : (passTime d s).odr.rhOut = s.odr.rhOut := by
  unfold passTime; split <;> rfl

theorem passTime_hev {s : State} (h : s.powered = true) (d : Nat) : (passTime d s).hev = s.hev.pass d := by
  simp [passTime, h]

/-- Time changes nothing that an evaluation reads, and the evaluation restarts the timer (R107). -/
theorem humidityAfter_passTime {s : State} (h : s.powered = true) (d : Nat) :
    humidityAfter (passTime d s) = humidityAfter s := by
  simp only [humidityAfter, passTime_channelValue, passTime_tOut, passTime_rhOut, passTime_params, passTime_hev h]
  rfl

/-! ### The requests at the mode stack (R51 to R53) -/

/-- The stack once both requests are handed over, the boost request first (R116): each as it was and as it now is. -/
def requestsTaken (p : Params) (boost boost' dry dry' : Bool) (m : ModeStack) : ModeStack :=
  takeDry p dry dry' (takeBoost p boost boost' m)

theorem takeBoost_same (p : Params) (b : Bool) (m : ModeStack) : takeBoost p b b m = m := if_pos rfl
theorem takeBoost_rises (p : Params) (m : ModeStack) : takeBoost p false true m = boostAsserted p m := rfl
theorem takeBoost_falls (p : Params) (m : ModeStack) : takeBoost p true false m = boostDeasserted p m := rfl
theorem takeDry_same (p : Params) (b : Bool) (m : ModeStack) : takeDry p b b m = m := if_pos rfl
theorem takeDry_rises (p : Params) (m : ModeStack) : takeDry p false true m = dryAsserted p m := rfl
theorem takeDry_falls (p : Params) (m : ModeStack) : takeDry p true false m = dryDeasserted m := rfl

theorem insertEntry_boostCopy (p : Params) (o : Origin) (m : ModeStack) :
    (insertEntry p o m).boostCopy = m.boostCopy := by
  unfold insertEntry; split <;> rfl

theorem insertEntry_dryCopy (p : Params) (o : Origin) (m : ModeStack) : (insertEntry p o m).dryCopy = m.dryCopy := by
  unfold insertEntry; split <;> rfl

/-- A HUM_BOOST entry that stands runs on unbounded. -/
theorem boostAsserted_of_has {m : ModeStack} (h : hasEntry m .humBoost = true) (p : Params) :
    boostAsserted p m = setRemaining .humBoost none { m with boostCopy := true } := if_pos h

/-- Otherwise HUM_DRY leaves the stack and HUM_BOOST comes in. -/
theorem boostAsserted_of_absent {m : ModeStack} (h : hasEntry m .humBoost = false) (p : Params) : boostAsserted p m =
    { m with
      boostCopy := true
      above := place ⟨.humBoost, 4, none, m.counter⟩ (m.above.filter fun e => e.origin != .humDry)
      counter := m.counter + 1 } := by
  have absent : hasEntry (withdraw .humDry { m with boostCopy := true }) .humBoost = false := by
    rw [hasEntry_withdraw, Bool.and_eq_false_iff]; exact .inl h
  have inserts : boostAsserted p m = insertEntry p .humBoost (withdraw .humDry { m with boostCopy := true }) :=
    if_neg (by simpa [hasEntry] using h)
  rw [inserts, insertEntry_of_absent absent]; rfl

theorem boostAsserted_boostCopy (p : Params) (m : ModeStack) : (boostAsserted p m).boostCopy = true := by
  cases h : hasEntry m .humBoost with
  | true => rw [boostAsserted_of_has h]; rfl
  | false => rw [boostAsserted_of_absent h]

theorem boostAsserted_hasEntry (p : Params) (m : ModeStack) : hasEntry (boostAsserted p m) .humBoost = true := by
  unfold boostAsserted; dsimp only; split
  · next present => rw [hasEntry_iff, origins_setRemaining, ← hasEntry_iff]; exact present
  · exact (hasEntry_insertEntry p .humBoost _ .humBoost).2 (.inl rfl)

/-- HUM_DRY comes in only where no boost is asked for and no HUM_BOOST stands. -/
theorem dryAsserted_of_boosting {m : ModeStack} (h : m.boostCopy = true ∨ hasEntry m .humBoost = true) (p : Params) :
    dryAsserted p m = { m with dryCopy := true } := if_pos (by rw [Bool.or_eq_true]; exact h)

theorem dryAsserted_of_free {m : ModeStack} (copy : m.boostCopy = false) (h : hasEntry m .humBoost = false) (p : Params) :
    dryAsserted p m = insertEntry p .humDry { m with dryCopy := true } :=
  if_neg (by rw [Bool.or_eq_true, not_or, Bool.not_eq_true, Bool.not_eq_true]; exact ⟨copy, h⟩)

theorem dryAsserted_dryCopy (p : Params) (m : ModeStack) : (dryAsserted p m).dryCopy = true := by
  unfold dryAsserted; dsimp only; split
  · rfl
  · exact insertEntry_dryCopy p _ _

/-- The dry request leaves the boost request's copy and a HUM_BOOST entry alone. -/
theorem takeDry_boostCopy (p : Params) (before now : Bool) (m : ModeStack) :
    (takeDry p before now m).boostCopy = m.boostCopy := by
  unfold takeDry dryAsserted; dsimp only; split
  · rfl
  · split
    · split
      · rfl
      · exact insertEntry_boostCopy p _ _
    · rfl

theorem takeDry_hasBoost {m : ModeStack} (h : hasEntry m .humBoost = true) (p : Params) (before now : Bool) :
    hasEntry (takeDry p before now m) .humBoost = true := by
  unfold takeDry; split
  · exact h
  · split
    · rw [dryAsserted_of_boosting (.inr h)]; exact h
    · rw [dryDeasserted, hasEntry_withdraw, Bool.and_eq_true]; exact ⟨h, rfl⟩

theorem dryDeasserted_hasEntry (m : ModeStack) : hasEntry (dryDeasserted m) .humDry = false := by
  simp [dryDeasserted, hasEntry_withdraw]

section
variable {p : Params} {boost boost' dry dry' : Bool}

theorem requestsTaken_unchanged (hb : boost' = boost) (hd : dry' = dry) (m : ModeStack) :
    requestsTaken p boost boost' dry dry' m = m := by
  subst hb hd; rw [requestsTaken, takeBoost_same, takeDry_same]

/-- Whatever the dry request does, an asserted boost request has its entry and its copy (R51). -/
theorem requestsTaken_boosts (hb : boost = false) (hb' : boost' = true) (m : ModeStack) :
    hasEntry (requestsTaken p boost boost' dry dry' m) .humBoost = true ∧
      (requestsTaken p boost boost' dry dry' m).boostCopy = true := by
  subst hb hb'
  rw [requestsTaken, takeBoost_rises, takeDry_boostCopy]
  exact ⟨takeDry_hasBoost (boostAsserted_hasEntry p m) p dry dry', boostAsserted_boostCopy p m⟩

theorem requestsTaken_boost_rises (hb : boost = false) (hb' : boost' = true) (hd : dry' = dry) (m : ModeStack) :
    requestsTaken p boost boost' dry dry' m = boostAsserted p m := by
  subst hb hb' hd; rw [requestsTaken, takeBoost_rises, takeDry_same]

theorem requestsTaken_boost_falls (hb : boost = true) (hb' : boost' = false) (hd : dry' = dry) (m : ModeStack) :
    requestsTaken p boost boost' dry dry' m = boostDeasserted p m := by
  subst hb hb' hd; rw [requestsTaken, takeBoost_falls, takeDry_same]

theorem requestsTaken_dry_rises (hb : boost' = boost) (hd : dry = false) (hd' : dry' = true) (m : ModeStack) :
    requestsTaken p boost boost' dry dry' m = dryAsserted p m := by
  subst hb hd hd'; rw [requestsTaken, takeBoost_same, takeDry_rises]

/-- Whatever the boost request does first, a dry request that deasserts is handed over last. -/
theorem requestsTaken_dry_falls (hd : dry = true) (hd' : dry' = false) (m : ModeStack) :
    requestsTaken p boost boost' dry dry' m = dryDeasserted (takeBoost p boost boost' m) := by
  subst hd hd'; rw [requestsTaken, takeDry_falls]

end

/-! ### The command -/

theorem humidityEvaluate_hev (s : State) : (humidityEvaluate s).hev = humidityAfter s := rfl

theorem humidityEvaluate_mst (s : State) : (humidityEvaluate s).mst =
    requestsTaken s.params s.hev.boost (humidityAfter s).boost s.hev.dry (humidityAfter s).dry s.mst := rfl

/-- HUMIDITY_EVALUATION in service: time up to its timer's limit (log 2), the evaluation on the values that stand, and the
hand-over of its requests (R107, R116). -/
theorem exec_humidityEvaluation {s : State} (served : inService s = true) {e : Nat} (running : s.hev.timer = some e) :
    ∃ t, exec .humidityEvaluation s = .next t ∧ t.uptime = s.uptime + (seconds 10 - e) ∧ t.hev = humidityAfter s ∧
      t.mst = requestsTaken s.params s.hev.boost (humidityAfter s).boost s.hev.dry (humidityAfter s).dry
        (s.mst.pass (seconds 10 - e)) := by
  have on := powered_of_inService served
  have taken : exec .humidityEvaluation s =
      .next (refreshLamps (humidityEvaluate (passTime (seconds 10 - e) s))) := by
    refine (whenInService_of _ s served).trans ?_
    rw [running, atLimit_some]; rfl
  refine ⟨_, taken, ?_, ?_, ?_⟩
  · rw [refreshLamps_uptime]; exact passTime_uptime on _
  · rw [(refreshLamps_kept _).hev, humidityEvaluate_hev, humidityAfter_passTime on]
  · rw [refreshLamps_mst, humidityEvaluate_mst, humidityAfter_passTime on, passTime_params, passTime_mst on,
      passTime_hev on]
    rfl

end Sys2Proof.Machine
end

section
/-! The statement of the humidity evaluator. -/

open Sys2Proof.Machine Sys2Proof.Safety

/-- Settles O35: the rules on their operands; then, at an evaluation, the evaluator's parts as it leaves them, and the mode
stack by which request has changed. -/
theorem humidityEvaluationFormsTheRequests : Obligations.HumidityEvaluationFormsTheRequests := by
  unfold Obligations.HumidityEvaluationFormsTheRequests
  refine ⟨place_placesByPriority, fun p m tOut i => ⟨rfl, rfl, rfl, rfl, rfl, rfl, ?_⟩, ?_⟩
  · rw [ruleHolds, ruleTrue_iff]
    simp only [outcomeInMask_iff]
  intro s e served running
  obtain ⟨t, taken, time, hev, mst⟩ := exec_humidityEvaluation served running
  refine ⟨t, taken, time, ?_⟩
  simp only [hev, mst]
  -- the ring, RISE and the dewpoints
  refine ⟨humidityAfter_timer s, humidityAfter_ring s, humidityAfter_writeIndex s,
    fun a b newest oldest => (humidityAfter_rise s).trans (riseOf_some newest oldest),
    fun absent => (humidityAfter_rise s).trans (riseOf_none absent),
    fun a b temperature humidity => (humidityAfter_tdEta s).trans (dewpointOf_some temperature humidity),
    fun a b temperature humidity => (humidityAfter_tdOut s).trans (dewpointOf_some temperature humidity),
    fun absent => (humidityAfter_tdOut s).trans (dewpointOf_none_right absent _), ?_⟩
  -- the counters and the requests
  refine ⟨humidityAfter_counters s, humidityAfter_boost s, humidityAfter_dry s, ?_⟩
  -- the mode stack
  refine ⟨fun boost dry => ?_, fun off on => requestsTaken_boosts off on _, fun off on dry => ?_, fun on off dry => ?_,
    fun boost off on => ?_, fun boost on off => ?_, fun on off => ?_⟩
  · rw [requestsTaken_unchanged boost dry]; rfl
  · rw [requestsTaken_boost_rises off on dry]
    refine ⟨fun absent => ?_, fun present => ?_⟩
    · rw [boostAsserted_of_absent (by exact absent)]; exact ⟨rfl, rfl⟩
    · rw [boostAsserted_of_has (by exact present)]; exact ⟨rfl, rfl⟩
  · rw [requestsTaken_boost_falls on off dry]; exact ⟨rfl, rfl⟩
  · rw [requestsTaken_dry_rises boost off on]
    refine ⟨dryAsserted_dryCopy _ _, fun copy noBoost noDry => ?_, fun boosting => ?_⟩
    · rw [dryAsserted_of_free (by exact copy) (by exact noBoost), insertEntry_of_absent (by exact noDry)]
      exact ⟨rfl, rfl⟩
    · rw [dryAsserted_of_boosting (by exact boosting)]; rfl
  · rw [requestsTaken_dry_falls on off, boost, takeBoost_same]; exact ⟨rfl, rfl⟩
  · rw [requestsTaken_dry_falls on off]; exact dryDeasserted_hasEntry _

end

section
/-! SUPPORT. THAW_U is entered at the end of a holdoff alone (R76, R79): every other command leaves a frost guard that is
outside THAW_U outside it. One lemma per operation of the frost guard, and of the blocks that call on it. -/

namespace Sys2Proof.Machine
open Sys2Proof.Safety

/-- The frost guard is not in an unbalanced thaw. -/
def OutsideThawU (s : State) : Prop := s.frg.state ≠ .thawU

/-! ### What leaves the frost guard's record alone -/

@[simp] theorem markActive_frg (k : FaultKind) (s : State) : (markActive k s).frg = s.frg := by
  obtain ⟨srf, e⟩ := markActive_eq k s; rw [e]

@[simp] theorem requestSaves_frg (n : Nat) (s : State) : (requestSaves n s).frg = s.frg := by
  obtain ⟨mpt, srf, e⟩ := requestSaves_eq n s; rw [e]

@[simp] theorem breakCaptures_frg (s : State) : (breakCaptures s).frg = s.frg := by
  obtain ⟨flm, e⟩ := breakCaptures_eq s; rw [e]

@[simp] theorem markIf_frg (failed : Bool) (k : FaultKind) (s : State) : (markIf failed k s).frg = s.frg := by
  unfold markIf; split
  · exact markActive_frg k s
  · rfl

theorem settleFan_frg (f : Fan) (s : State) : (settleFan f s).frg = s.frg := by
  unfold settleFan; dsimp only; split <;> rfl

theorem stallFan_frg (f : Fan) (s : State) : (stallFan f s).frg = s.frg := by
  unfold stallFan; dsimp only; split
  · rw [markActive_frg, setFan_frg]
  · rfl

theorem stallFans_frg (s : State) : (stallFans s).frg = s.frg := by
  unfold stallFans; dsimp only; split
  · rw [guardFlows_frg, stallFan_frg, stallFan_frg]
  · rw [stallFan_frg, stallFan_frg]

/-- The fan drive's own evaluation leaves the frost guard alone. -/
theorem evaluateFans_frg (s : State) : (evaluateFans s).frg = s.frg := by
  rw [evaluateFans, updateFanStates, stallFans_frg, settleFan_frg, settleFan_frg]; rfl

theorem onRecord_frg (f : Fan) (op : FilterRecord → FilterRecord × Nat) (s : State) : (onRecord f op s).frg = s.frg := by
  rw [onRecord, requestSaves_frg, setFilter_frg]

theorem enterBlocked_frg (f : Fan) (s : State) : (enterBlocked f s).frg = s.frg := by
  rw [enterBlocked, requestSave_frg, markActive_frg, setFilter_frg]

theorem captureAtLimit_frg (f : Fan) (s : State) : (captureAtLimit f s).frg = s.frg := by
  unfold captureAtLimit; split
  · split
    · exact onRecord_frg _ _ _
    · rfl
  · rfl

theorem placeRecords_frg (r : PerFan FilterRecord) (s : State) : (placeRecords r s).frg = s.frg := by
  unfold placeRecords; dsimp only; split
  · rw [markActive_frg, requestSaves_frg]
  · rw [requestSaves_frg]

theorem takeImage_frg (img : Option (List Byte)) (s : State) : (takeImage img s).frg = s.frg := by
  rw [takeImage, markIf_frg, markIf_frg]

theorem endSave_frg (s : State) : (endSave s).frg = s.frg := by unfold endSave; split <;> rfl

theorem failByte_frg (sv : Save) (s : State) : (failByte sv s).frg = s.frg := by
  rw [failByte, endSave_frg, markActive_frg]; rfl

theorem byteWritten_frg (sv : Save) (s : State) : (byteWritten sv s).frg = s.frg := by
  unfold byteWritten; dsimp only; split
  · rfl
  · rw [completeSave, endSave_frg]; rfl

theorem lookAtSave_frg (sv : Save) (status : Byte) (s : State) : (lookAtSave sv status s).frg = s.frg := by
  unfold lookAtSave; split
  · exact failByte_frg sv _
  · split <;> rfl

theorem answerQuery_frg (space : Space) (payload : List Byte) (s : State) :
    (answerQuery space payload s).frg = s.frg := by
  unfold answerQuery; split
  · split <;> rfl
  · rfl

theorem outdoorChanged_frg (s : State) : (outdoorChanged s).frg = s.frg := by unfold outdoorChanged; split <;> rfl

theorem updateOutdoor_frg (s : State) : (updateOutdoor s).frg = s.frg := rfl

theorem evaluatePlume_frg (s : State) : (evaluatePlume s).frg = s.frg := by
  obtain ⟨odr, e⟩ := evaluatePlume_eq s; rw [e]

theorem evaluatePlumeOf_frg (p : Position) (s : State) : (evaluatePlumeOf p s).frg = s.frg := by
  obtain ⟨odr, e⟩ := evaluatePlumeOf_eq p s; rw [e]

/-! ### Changes of the frost state -/

@[simp] theorem composeState_frg (s : State) : (composeState s).frg = s.frg := rfl

@[simp] theorem moveTo_state (st : FrostState) (s : State) : (moveTo st s).frg.state = st := by
  obtain ⟨_, _, _, _, e⟩ := moveTo_eq st s; rw [e]

section
variable {s : State}

theorem outsideThawU_of_frg {t : State} (h : OutsideThawU s) (frg : t.frg = s.frg) : OutsideThawU t := by
  rw [OutsideThawU, frg]; exact h

theorem outsideThawU_of_state {st : FrostState} (state : s.frg.state = st) (other : st ≠ .thawU) : OutsideThawU s := by
  rw [OutsideThawU, state]; exact other

theorem moveTo_outside {st : FrostState} (other : st ≠ .thawU) (s : State) : OutsideThawU (moveTo st s) :=
  outsideThawU_of_state (moveTo_state st s) other

theorem assessIce_outside (h : OutsideThawU s) : OutsideThawU (assessIce s) := by
  obtain ⟨_, _, _, _, e⟩ := assessIce_eq s
  rw [e]; exact h

theorem refreshAvailability_outside (h : OutsideThawU s) : OutsideThawU (refreshAvailability s) := by
  unfold refreshAvailability; split
  · split
    · exact h
    · obtain ⟨_, _, _, _, state⟩ := withdrawPreheater_frost s
      refine outsideThawU_of_state state ?_
      split
      · decide
      · exact h
  · exact h

theorem fansChanged_outside (h : OutsideThawU s) : OutsideThawU (fansChanged s) :=
  refreshAvailability_outside (outsideThawU_of_frg h (breakCaptures_frg s))

theorem enterFallback_outside (s : State) : OutsideThawU (enterFallback s) := by
  obtain ⟨_, _, _, _, e⟩ := enterFallback_frg s
  exact outsideThawU_of_state (st := .fallback) (by rw [e]) (by decide)

theorem leaveFallback_outside (s : State) : OutsideThawU (leaveFallback s) := by
  obtain ⟨_, _, _, e⟩ := leaveFallback_frg s
  exact outsideThawU_of_state (st := .watch) (by rw [e]) (by decide)

theorem exhaustChanged_outside (before after : ChannelRecord) (h : OutsideThawU s) :
    OutsideThawU (exhaustChanged before after s) := by
  unfold exhaustChanged exhaustLost exhaustBack; split
  · split
    · exact enterFallback_outside s
    · exact h
  · split
    · split
      · exact leaveFallback_outside s
      · exact h
    · exact h

theorem handOver_outside (ch : Channel) (before after : ChannelRecord) (h : OutsideThawU s) :
    OutsideThawU (handOver ch before after s) := by
  rcases handOver_cases ch before after s with e | e | e | e <;> rw [e]
  · exact h
  · exact outsideThawU_of_frg h (outdoorChanged_frg s)
  · exact refreshAvailability_outside h
  · exact exhaustChanged_outside before after h

theorem takeConversion_outside (ch : Channel) (x : Sample) (h : OutsideThawU s) :
    OutsideThawU (takeConversion ch x s) := by
  obtain ⟨srf, taken⟩ := takeConversion_eq ch x s
  rw [taken]; exact handOver_outside ch _ _ (by exact h)

theorem expireHold_outside (ch : Channel) (h : OutsideThawU s) : OutsideThawU (expireHold ch s) := by
  by_cases held : (channel s ch).state = .held
  · rw [expireHold_of_held held]
    exact handOver_outside ch _ _ (outsideThawU_of_frg h (markActive_frg _ _))
  · rw [expireHold, if_neg held]; exact h

/-! ### Intent and thaws -/

/-- A denied intent ends in THAW_B (R159). -/
theorem checkIntent_outside (h : OutsideThawU s) : OutsideThawU (checkIntent s) := by
  unfold checkIntent; split
  · exact h
  · exact outsideThawU_of_state (enterThaw_frg _ _ _).1 (by decide)

theorem recheckIntent_outside (h : OutsideThawU s) : OutsideThawU (recheckIntent s) := by
  unfold recheckIntent; split
  · exact checkIntent_outside h
  · exact h

theorem enterIntent_outside (s : State) : OutsideThawU (enterIntent s) :=
  checkIntent_outside (moveTo_outside (by decide) _)

/-- A check at an event, and the conversion of a thaw after it (R79, R158). -/
theorem convertThaw_recheckIntent_outside (h : OutsideThawU s) : OutsideThawU (convertThaw (recheckIntent s)) := by
  rw [convertThaw_of_other (recheckIntent_outside h)]; exact recheckIntent_outside h

theorem adjUpdated_outside (x : PeerEntry) (h : OutsideThawU s) : OutsideThawU (adjUpdated x s) := by
  rw [adjUpdated, if_neg h]; exact recheckIntent_outside h

/-- A thaw ends in RECOVER or in FALLBACK (R78). -/
theorem thawEnd_outside (h : OutsideThawU s) : OutsideThawU (thawEnd s) := by
  unfold thawEnd; dsimp only; rw [if_neg h]; split
  · exact moveTo_outside (by decide) _
  · exact enterFallback_outside _

theorem thawTimedOut_outside (h : OutsideThawU s) : OutsideThawU (thawTimedOut s) := by
  unfold thawTimedOut; split
  · exact thawEnd_outside h
  · exact h

theorem endRecover_outside (h : OutsideThawU s) : OutsideThawU (endRecover s) := by
  unfold endRecover; split
  · exact moveTo_outside (by decide) _
  · exact h

theorem endIceHold_outside (h : OutsideThawU s) : OutsideThawU (endIceHold s) := by
  rw [endIceHold, clearIcePossible, OutsideThawU, requestSaves_frg]; exact h

theorem takeCutout_outside (h : OutsideThawU s) : OutsideThawU (takeCutout s) := by
  unfold takeCutout; split
  · exact refreshAvailability_outside h
  · exact refreshAvailability_outside (outsideThawU_of_frg h (markActive_frg _ s))

theorem cutoutDebounced_outside (h : OutsideThawU s) : OutsideThawU (cutoutDebounced s) := by
  unfold cutoutDebounced; dsimp only; split
  · exact takeCutout_outside (by exact h)
  · exact h

/-! ### The frost evaluation (R61) -/

theorem moveCold_outside {st : FrostState} (other : st ≠ .thawU) (s : State) : OutsideThawU (moveCold st s) :=
  moveTo_outside other _

theorem testClear_outside (h : OutsideThawU s) : OutsideThawU (testClear s) := by
  unfold testClear; split
  · exact moveCold_outside (by decide) s
  · exact h

theorem testWatch_outside (h : OutsideThawU s) : OutsideThawU (testWatch s) := by
  unfold testWatch; split
  · exact moveCold_outside (by split <;> decide) s
  · split
    · exact moveCold_outside (by decide) s
    · exact h

theorem endPreheat_outside (h : OutsideThawU s) : OutsideThawU (endPreheat s) := by
  unfold endPreheat; split
  · exact moveTo_outside (by decide) s
  · exact h

theorem testPreheat_outside (h : OutsideThawU s) : OutsideThawU (testPreheat s) := by
  unfold testPreheat; dsimp only; split
  · exact moveCold_outside (by decide) _
  · exact endPreheat_outside (by exact h)

theorem testReduce_outside (h : OutsideThawU s) : OutsideThawU (testReduce s) := by
  unfold testReduce; split
  · exact enterIntent_outside s
  · split
    · split
      · exact moveTo_outside (by decide) s
      · exact moveCold_outside (by decide) s
    · exact h

theorem testThaw_outside (h : OutsideThawU s) : OutsideThawU (testThaw s) := by
  unfold testThaw; split
  · exact thawEnd_outside h
  · exact h

theorem testFallback_outside (h : OutsideThawU s) : OutsideThawU (testFallback s) := by
  unfold testFallback; split
  · exact leaveFallback_outside s
  · split
    · exact h
    · exact h

theorem unlessExhaustFault_outside {test : State → State} (keeps : OutsideThawU (test s)) :
    OutsideThawU (unlessExhaustFault test s) := by
  unfold unlessExhaustFault; split
  · exact enterFallback_outside s
  · exact keeps

theorem testState_outside (h : OutsideThawU s) : OutsideThawU (testState s) := by
  unfold testState; split
  · exact unlessExhaustFault_outside (testClear_outside h)
  · exact unlessExhaustFault_outside (testWatch_outside h)
  · exact unlessExhaustFault_outside (testPreheat_outside h)
  · exact unlessExhaustFault_outside (testReduce_outside h)
  · exact unlessExhaustFault_outside h
  · exact testThaw_outside h
  · exact testThaw_outside h
  · exact unlessExhaustFault_outside h
  · exact testFallback_outside h

theorem frostEvaluate_outside (h : OutsideThawU s) : OutsideThawU (frostEvaluate s) := by
  have loaded : OutsideThawU (updatePower (updateLoad s)) := h
  exact assessIce_outside (testState_outside loaded)

/-! ### The fan drive and the filter monitor -/

theorem fanEvaluate_outside (h : OutsideThawU s) : OutsideThawU (fanEvaluate s) := by
  have handed : OutsideThawU (handedOver s) := fansChanged_outside (outsideThawU_of_frg h (evaluateFans_frg s))
  obtain ⟨_, _, e⟩ := evaluateFilters_eq (handedOver s)
  rw [OutsideThawU, fanEvaluate_frg, e]; exact handed

theorem settleAtLimit_outside (f : Fan) (h : OutsideThawU s) : OutsideThawU (settleAtLimit f s) := by
  unfold settleAtLimit; split
  · exact fansChanged_outside h
  · exact h

theorem stallAtLimit_outside (f : Fan) (h : OutsideThawU s) : OutsideThawU (stallAtLimit f s) := by
  unfold stallAtLimit; split
  · exact fansChanged_outside (outsideThawU_of_frg h (by rw [guardFlows_frg, markActive_frg, setFan_frg]))
  · exact h

theorem endRetryPause_outside (f : Fan) (h : OutsideThawU s) : OutsideThawU (endRetryPause f s) := by
  unfold endRetryPause; split
  · exact fansChanged_outside h
  · exact h

theorem clearRetries_outside (h : OutsideThawU s) : OutsideThawU (clearRetries s) := fansChanged_outside h

theorem filterHeld_outside (h : OutsideThawU s) : OutsideThawU (filterHeld s) := by
  rw [filterHeld, filterChange, OutsideThawU, requestSave_frg]; exact h

/-! ### The mode stack and the start load -/

theorem boostDebounced_outside (h : OutsideThawU s) : OutsideThawU (boostDebounced s) := by
  unfold boostDebounced; dsimp only; split <;> exact h

theorem awayDebounced_outside (h : OutsideThawU s) : OutsideThawU (awayDebounced s) := by
  unfold awayDebounced; dsimp only; split <;> exact h

theorem takeCombustion_outside (h : OutsideThawU s) : OutsideThawU (takeCombustion s) := by
  unfold takeCombustion; split
  · cases flag : combustionFlag s with
    | true => rw [insertCombustion, if_pos flag]; exact h
    | false => exact insertCombustion_not_thawU flag
  · exact h

theorem combustionDebounced_outside (h : OutsideThawU s) : OutsideThawU (combustionDebounced s) := by
  unfold combustionDebounced; dsimp only; split
  · exact takeCombustion_outside (by exact h)
  · exact h

theorem setPin_outside (pin : InputPin) (high : Bool) (h : OutsideThawU s) : OutsideThawU (setPin pin high s) := by
  cases pin <;> exact h

theorem takeUpStack_outside (h : OutsideThawU s) : OutsideThawU (takeUpStack s) := takeCombustion_outside (by exact h)

theorem takeUpFlows_outside (order : StartOrder) (h : OutsideThawU s) : OutsideThawU (takeUpFlows order s) := by
  cases order with
  | fanFirst => exact takeUpStack_outside (fanEvaluate_outside h)
  | stackFirst => exact takeUpStack_outside (by exact h)

theorem startPeriods_outside (h : OutsideThawU s) :
    OutsideThawU (evaluateClimate (updateOutdoor (startPeriods s))) := h

theorem completeLoad_outside (order : StartOrder) (img : Option (List Byte)) (h : OutsideThawU s) :
    OutsideThawU (completeLoad order img s) := by
  have loaded : OutsideThawU (placeRecords (recordsInUse img).2 (startLine (takeImage img s))) :=
    outsideThawU_of_frg h (by rw [placeRecords_frg, startLine, setLine_frg, takeImage_frg])
  exact startPeriods_outside (takeCutout_outside (takeUpFlows_outside order loaded))

theorem lookAtMemory_outside (status : Byte) (order : StartOrder) (h : OutsideThawU s) :
    OutsideThawU (lookAtMemory status order s) := by
  unfold lookAtMemory; split
  · exact completeLoad_outside order none (by exact h)
  · split <;> exact h

/-! ### The terrace line and the peer table -/

theorem failFrame_outside (f : ShiftedFrame) (h : OutsideThawU s) : OutsideThawU (failFrame f s) := by
  unfold failFrame; dsimp only; split
  · exact h
  · exact recheckIntent_outside (by exact h)

theorem beginContention_outside (c : Contention) (h : OutsideThawU s) : OutsideThawU (beginContention c s) := by
  unfold beginContention; split
  · split
    · exact h
    · exact failFrame_outside _ (by exact h)
    · exact h
  · exact h

theorem findDuplicate_outside (h : OutsideThawU s) : OutsideThawU (findDuplicate s) := by
  unfold findDuplicate; split
  · exact h
  · exact convertThaw_recheckIntent_outside (outsideThawU_of_frg h (by rw [markActive_frg, setLine_frg]))

theorem endQuiet_outside (h : OutsideThawU s) : OutsideThawU (endQuiet s) := by
  unfold endQuiet; split
  · exact recheckIntent_outside (by exact h)
  · exact h

theorem endListenIn_outside (h : OutsideThawU s) : OutsideThawU (endListenIn s) := by
  unfold endListenIn; split
  · exact recheckIntent_outside (by exact h)
  · exact h

theorem recordEntry_outside (x : PeerEntry) (h : OutsideThawU s) : OutsideThawU (recordEntry x s) := by
  have resolved : OutsideThawU (updateOutdoor (evaluatePlumeOf x.position
      { s with ptb := { s.ptb with entries := putEntry x s.ptb.entries } })) :=
    outsideThawU_of_frg h (by rw [updateOutdoor_frg, evaluatePlumeOf_frg])
  unfold recordEntry; dsimp only; split
  · exact adjUpdated_outside x resolved
  · exact resolved

theorem hearState_outside (sender : Position) (payload : List Byte) (h : OutsideThawU s) :
    OutsideThawU (hearState sender payload s) := by
  unfold hearState; split
  · split
    · exact h
    · exact recordEntry_outside _ h
  · exact h

theorem hearIntent_outside (sender : Position) (payload : List Byte) (h : OutsideThawU s) :
    OutsideThawU (hearIntent sender payload s) := by
  unfold hearIntent; split
  · split
    · exact h
    · exact recordEntry_outside _ h
  · exact h

theorem hearEnd_outside (sender : Position) (payload : List Byte) (h : OutsideThawU s) :
    OutsideThawU (hearEnd sender payload s) := by
  unfold hearEnd; split
  · exact recordEntry_outside _ h
  · exact h

theorem ageEntries_outside (h : OutsideThawU s) : OutsideThawU (ageEntries s) := by
  have resolved : ∀ t : State, t.frg = s.frg → OutsideThawU (updateOutdoor (evaluatePlume t)) := fun t frg =>
    outsideThawU_of_frg h (by rw [updateOutdoor_frg, evaluatePlume_frg, frg])
  unfold ageEntries; dsimp only; split
  · exact recheckIntent_outside (resolved _ rfl)
  · exact resolved _ rfl

theorem expireEntry_outside (position : Position) (h : OutsideThawU s) : OutsideThawU (expireEntry position s) := by
  unfold expireEntry removeEntries; dsimp only; split
  · split
    · exact recheckIntent_outside (by exact h)
    · exact h
  · exact h

end

/-- Every command but HOLDOFF_EXPIRY leaves a frost guard outside THAW_U outside it. -/
theorem outsideThawU_keeps : Keeps (· ≠ .holdoffExpiry) OutsideThawU where
  pending _ _ h := h
  time d s h := by rw [OutsideThawU, passTime_frostState]; exact h
  lamps s h := outsideThawU_of_frg h (refreshLamps_frg s)
  power _ _ _ _ _ _ := FrostState.noConfusion
  look _ status order _ _ _ _ _ h := lookAtMemory_outside status order h
  complete _ order img _ _ _ _ _ h := completeLoad_outside order img h
  -- the scanner
  conversion ch _ _ _ _ h := takeConversion_outside ch _ h
  hold ch _ _ _ h := expireHold_outside ch h
  pulse _ _ _ _ _ _ h := h
  scan _ _ _ h := refreshAvailability_outside h
  -- the fan drive
  evaluation _ _ _ h := fanEvaluate_outside h
  settle f _ _ _ h := settleAtLimit_outside f h
  stall f _ _ _ h := stallAtLimit_outside f h
  retry f _ _ _ h := endRetryPause_outside f h
  -- the mode stack
  pin pin high _ _ h := setPin_outside pin high h
  boost _ _ _ h := boostDebounced_outside h
  away _ _ _ h := awayDebounced_outside h
  combustion _ _ _ h := combustionDebounced_outside h
  count _ _ _ h := h
  expire _ _ _ h := h
  climate _ _ _ h := h
  humidity _ _ _ h := h
  -- the frost guard
  frost _ _ _ h := frostEvaluate_outside h
  fullPower _ _ _ h := endPreheat_outside h
  holdoff _ other := absurd rfl other
  thaw _ _ _ h := thawTimedOut_outside h
  recover _ _ _ h := endRecover_outside h
  timedThaw _ _ _ h := h
  iceHold _ _ _ h := endIceHold_outside h
  heat _ _ _ h := h
  cutout _ _ _ h := cutoutDebounced_outside h
  -- the filter monitor and the memory port
  filterRecord _ f op s _ _ _ h := outsideThawU_of_frg h (onRecord_frg f op s)
  blocked f s _ _ h := outsideThawU_of_frg h (enterBlocked_frg f s)
  capture f s _ _ h := outsideThawU_of_frg h (captureAtLimit_frg f s)
  filterButton _ _ _ h := h
  filterHold _ _ _ h := filterHeld_outside h
  save _ sv status s _ _ _ h := outsideThawU_of_frg h (lookAtSave_frg sv status s)
  byteFailed _ sv s _ _ _ h := outsideThawU_of_frg h (failByte_frg sv s)
  byteWritten _ sv s _ _ _ h := outsideThawU_of_frg h (byteWritten_frg sv s)
  -- the terrace line
  idle _ _ _ h := h
  dominant _ _ _ h := h
  contention c _ _ _ h := beginContention_outside c h
  lost _ _ _ _ h := h
  bitError f _ _ _ h := failFrame_outside f h
  success _ _ _ _ h := h
  discarded _ _ _ _ _ _ _ _ h := h
  stuck _ _ _ h := h
  stuckReception _ _ _ h := h
  heard _ _ _ _ _ _ _ h := h
  duplicate _ _ _ _ _ _ h := findDuplicate_outside h
  quiet _ _ _ h := endQuiet_outside h
  listenIn _ _ _ h := endListenIn_outside h
  statePeriod _ _ _ h := h
  -- the peer table, the outdoor resolver, the responder and the lamps
  stateFrame sender payload _ _ _ _ h := hearState_outside sender payload h
  intentFrame sender payload _ _ _ _ h := hearIntent_outside sender payload h
  endFrame sender payload _ _ _ _ h := hearEnd_outside sender payload h
  query _ space payload s _ _ _ h := outsideThawU_of_frg h (answerQuery_frg space payload s)
  clearCapture _ _ _ _ _ h := h
  clearFaults _ _ _ _ _ h := h
  clearRetry _ _ _ _ _ h := clearRetries_outside h
  ageing _ _ _ h := ageEntries_outside h
  entryGone p _ _ _ h := expireEntry_outside p h
  plumeHold _ _ _ h := h
  flash _ _ _ _ h := h

end Sys2Proof.Machine
end

section
/-! SUPPORT. The end of a holdoff (R155, R156, R159, R160): precedence, the intent check through the passing of time, and the
thaw that the check's finding leads to. -/

namespace Sys2Proof.Machine
open Sys2Proof.Safety

/-! ### Precedence and the intent check -/

theorem precedes_iff (urgencyA : Nat) (a : Position) (urgencyB : Nat) (b : Position) :
    precedes urgencyA a urgencyB b = true ↔
      urgencyB < urgencyA ∨ (urgencyB = urgencyA ∧ a.toNat < b.toNat) := by
  simp [precedes, @eq_comm _ urgencyA urgencyB]

/-- An entry has precedence only where both urgencies and the own position are known (R155). -/
theorem entryPrecedes_precedesByUrgencyThenPosition : PrecedesByUrgencyThenPosition := by
  intro s x
  unfold entryPrecedes
  cases theirs : x.urgency with
  | none => simp
  | some u =>
    cases own : s.frg.urgency with
    | none => simp
    | some v =>
      cases position : s.params.position with
      | none => simp
      | some p => simp [precedes_iff]

@[simp] theorem passTime_urgency (d : Nat) (s : State) : (passTime d s).frg.urgency = s.frg.urgency := by
  unfold passTime; split <;> rfl

@[simp] theorem passTime_entryPrecedes (d : Nat) (s : State) (x : PeerEntry) :
    entryPrecedes (passTime d s) x = entryPrecedes s x := by simp [entryPrecedes]

@[simp] theorem passTime_intentCheck (d : Nat) (s : State) : intentCheck (passTime d s) = intentCheck s := by
  simp [intentCheck, anyAdj]

/-- A check that finds nothing: what R156 asks for holds of the flue, the line and the neighbours. -/
theorem intentCheckFinds_none {s : State} (h : IntentCheckFinds s none) : combustionFlag s = false ∧
    s.lnc.state = .active ∧ ∀ x ∈ s.ptb.entries, inSet s.params.adj x.position = true →
      x.announcement ≠ .thawU ∧ (x.announcement = .intent → entryPrecedes s x = false) := by
  have noFire : combustionFlag s = false := by
    cases fire : combustionFlag s with
    | false => rfl
    | true => exact absurd (h.combustion fire) nofun
  have active : s.lnc.state = .active := by
    by_cases same : s.lnc.state = .active
    · exact same
    · exact absurd (h.line noFire same) nofun
  have noThaw : ∀ x ∈ s.ptb.entries, inSet s.params.adj x.position = true → x.announcement ≠ .thawU :=
    fun x listed adj thaws => absurd (h.peerThaw noFire active ⟨x, listed, adj, thaws⟩) nofun
  refine ⟨noFire, active, fun x listed adj => ⟨noThaw x listed adj, fun intends => ?_⟩⟩
  cases ahead : entryPrecedes s x with
  | false => rfl
  | true => exact absurd (h.peerPrecedence noFire active noThaw ⟨x, listed, adj, intends, ahead⟩) nofun

/-! ### The entry to a thaw (R76) -/

/-- The content of a STATE frame does not depend on the lamps (R132). -/
theorem stateContent_refreshLamps (s : State) : stateContent (refreshLamps s) = stateContent s := by
  obtain ⟨srf, e⟩ := refreshLamps_eq s
  rw [e]; rfl

/-- A STATE frame stands in its slot of a line that is not OFF (R129, R132). -/
theorem composeState_stateSlot {s : State} (on : s.lnc.state ≠ .off) :
    (composeState s).lnc.stateSlot = some ⟨.state, stateBytes (stateContent s)⟩ := by
  simp [composeState, stage, stageIn, on, setSlot]

theorem composeState_statePeriod (s : State) : (composeState s).lnc.statePeriod = some 0 := by
  simp only [composeState, stage, stageIn, setSlot]; split <;> rfl

/-- From `s` to `t` a thaw has been entered from INTENT: the thaw timer has started, and the STATE frame with the new
announcement is staged (R76, R132). -/
structure ThawEntered (s t : State) : Prop where
  holdoff : t.frg.holdoff = none
  thaw : t.frg.thaw = some 0
  urgency : t.frg.urgency = s.frg.urgency
  period : t.lnc.statePeriod = some 0
  staged : t.lnc.stateSlot = some ⟨.state, stateBytes (stateContent t)⟩

/-- The guard's record after the entry to a thaw, but for the ice-possible flag, its hold and the ice index. -/
theorem enterThaw_record (st : FrostState) (power : Nat) (s : State) : ∃ left flag hold index,
    (enterThaw st power s).frg = { s.frg with
      state := st, holdoff := none, thaw := some 0, fullPower := none, power := power,
      heatOn := if power = 0 then false else s.frg.heatOn, heatLeft := left,
      icePossible := flag, iceHold := hold, iceIndex := index } := by
  obtain ⟨left, powered⟩ := setPower_eq power { s.frg with holdoff := none, thaw := some 0 }
  obtain ⟨_, flag, hold, index, moved⟩ := moveTo_eq st
    { s with frg := setPower power { s.frg with holdoff := none, thaw := some 0 } }
  refine ⟨left, flag, hold, index, ?_⟩
  rw [enterThaw, composeState_frg, moved, powered]

theorem enterThaw_enters (st : FrostState) (power : Nat) {s : State} (on : s.lnc.state ≠ .off) :
    ThawEntered s (enterThaw st power s) := by
  obtain ⟨_, _, _, _, record⟩ := enterThaw_record st power s
  constructor
  case holdoff => rw [record]
  case thaw => rw [record]
  case urgency => rw [record]
  case period => exact composeState_statePeriod _
  case staged => exact composeState_stateSlot (by rw [moveTo_lnc]; exact on)

theorem deny_enters (reason : Denial) {s : State} (on : s.lnc.state ≠ .off) : ThawEntered s (deny reason s) := by
  obtain ⟨holdoff, thaw, urgency, period, staged⟩ :=
    enterThaw_enters .thawB (thawBPower s) (s := { s with frg := { s.frg with denial := some reason } }) on
  exact ⟨holdoff, thaw, urgency, period, staged⟩

theorem thawEntered_refreshLamps {s t : State} (h : ThawEntered s t) : ThawEntered s (refreshLamps t) := by
  obtain ⟨holdoff, thaw, urgency, period, staged⟩ := h
  constructor <;> simp only [refreshLamps_frg, refreshLamps_lnc, stateContent_refreshLamps] <;> assumption

/-! ### The end of the holdoff (R160) -/

section
variable {s : State}

theorem endHoldoff_of_passes (intent : s.frg.state = .intent) (passes : intentCheck s = none) :
    endHoldoff s = enterThaw .thawU 0 s := by rw [endHoldoff, if_pos intent, passes]

theorem endHoldoff_of_denied {reason : Denial} (intent : s.frg.state = .intent) (denied : intentCheck s = some reason) :
    endHoldoff s = deny reason s := by rw [endHoldoff, if_pos intent, denied]

theorem endHoldoff_of_other (h : s.frg.state ≠ .intent) : endHoldoff s = s := if_neg h

/-- Whatever the check finds, the holdoff ends in a thaw (R159, R160). -/
theorem endHoldoff_enters (intent : s.frg.state = .intent) (on : s.lnc.state ≠ .off) : ThawEntered s (endHoldoff s) := by
  cases found : intentCheck s with
  | none => rw [endHoldoff_of_passes intent found]; exact enterThaw_enters _ _ on
  | some reason => rw [endHoldoff_of_denied intent found]; exact deny_enters reason on

theorem endHoldoff_passes (intent : s.frg.state = .intent) (passes : intentCheck s = none) :
    (endHoldoff s).frg.state = .thawU ∧ (endHoldoff s).frg.power = 0 ∧ (endHoldoff s).frg.heatOn = false ∧
      (endHoldoff s).frg.denial = s.frg.denial := by
  obtain ⟨_, _, _, _, record⟩ := enterThaw_record .thawU 0 s
  rw [endHoldoff_of_passes intent passes, record]
  exact ⟨rfl, rfl, rfl, rfl⟩

theorem endHoldoff_denied {reason : Denial} (intent : s.frg.state = .intent) (denied : intentCheck s = some reason) :
    (endHoldoff s).frg.state = .thawB ∧ (endHoldoff s).frg.denial = some reason := by
  obtain ⟨state, denial, _⟩ := enterThaw_frg .thawB (thawBPower s)
    { s with frg := { s.frg with denial := some reason } }
  rw [endHoldoff_of_denied intent denied]
  exact ⟨state, denial⟩

/-- The end of a holdoff reaches THAW_U only from INTENT, with a check that finds nothing (R79). -/
theorem endHoldoff_thawU (h : OutsideThawU s) (entered : (endHoldoff s).frg.state = .thawU) :
    s.frg.state = .intent ∧ intentCheck s = none := by
  by_cases intent : s.frg.state = .intent
  · refine ⟨intent, ?_⟩
    cases found : intentCheck s with
    | none => rfl
    | some reason => rw [(endHoldoff_denied intent found).1] at entered; cases entered
  · rw [endHoldoff_of_other intent] at entered; exact absurd entered h

/-- HOLDOFF_EXPIRY in service: time up to the end of the holdoff (log 2), then its end. -/
theorem exec_holdoffExpiry (served : inService s = true) {e : Nat} (running : s.frg.holdoff = some e) :
    exec .holdoffExpiry s = .next (refreshLamps (endHoldoff (passTime (seconds 30 - e) s))) := by
  refine (whenInService_of _ s served).trans ?_
  rw [running, atLimit_some]; rfl

/-- Everything HOLDOFF_EXPIRY can do to the guard: nothing, or the end of a running holdoff. -/
theorem exec_holdoffExpiry_cases {t : State} (h : exec .holdoffExpiry s = .next t) : t.frg = s.frg ∨
    (s.frg.holdoff.isSome = true ∧ ∃ d, t.frg = (endHoldoff (passTime d s)).frg) := by
  rcases whenInService_next h with same | ⟨-, taken⟩
  · exact .inl (by rw [same])
  · cases running : s.frg.holdoff with
    | none => rw [running, atLimit_none] at taken; exact .inl (by rw [taken, refreshLamps_frg])
    | some e => rw [running, atLimit_some] at taken; exact .inr ⟨rfl, _, by rw [taken, refreshLamps_frg]⟩

end

/-- THAW_U is entered by no command but HOLDOFF_EXPIRY, and by it only from INTENT at the end of a running holdoff with a check
that finds nothing (R79, R160). -/
theorem exec_entersThawU {i : Instr} {s t : State} (h : exec i s = .next t) (before : OutsideThawU s)
    (after : t.frg.state = .thawU) :
    i = .holdoffExpiry ∧ s.frg.state = .intent ∧ s.frg.holdoff.isSome = true ∧ intentCheck s = none := by
  have command : i = .holdoffExpiry := by
    by_cases same : i = .holdoffExpiry
    · exact same
    · exact absurd after (outsideThawU_keeps.exec i same h before)
  subst command
  rcases exec_holdoffExpiry_cases h with same | ⟨running, d, ended⟩
  · rw [same] at after; exact absurd after before
  · rw [ended] at after
    obtain ⟨intent, passes⟩ := endHoldoff_thawU (outsideThawU_keeps.time d s before) after
    exact ⟨rfl, by simpa using intent, running, by simpa using passes⟩

end Sys2Proof.Machine
end

section
/-! The statement of the thaw coordination. -/

open Sys2Proof.Machine Sys2Proof.Safety

/-- Settles O26: precedence; then THAW_U's only entry, by what every other command keeps; then the end of the holdoff, by what
its check finds. -/
theorem holdoffEndsInAThaw : Obligations.HoldoffEndsInAThaw := by
  unfold Obligations.HoldoffEndsInAThaw
  refine ⟨entryPrecedes_precedesByUrgencyThenPosition, fun i s t stepped before after => ?_,
    fun s e served intent running on => ?_⟩
  · obtain ⟨command, intent, running, passes⟩ := exec_entersThawU stepped before after
    obtain ⟨noFire, active, neighbours⟩ := intentCheckFinds_none (passes ▸ intentCheck_finds s)
    exact ⟨command, intent, running, active, noFire, neighbours⟩
  · have before : (passTime (seconds 30 - e) s).frg.state = .intent := (passTime_frostState _ s).trans intent
    have check : intentCheck (passTime (seconds 30 - e) s) = intentCheck s := passTime_intentCheck _ s
    have finds := intentCheck_finds s
    obtain ⟨holdoff, thaw, urgency, period, staged⟩ :=
      thawEntered_refreshLamps (endHoldoff_enters before (by simpa using on))
    have denies : ∀ {reason}, intentCheck s = some reason →
        (refreshLamps (endHoldoff (passTime (seconds 30 - e) s))).frg.state = .thawB ∧
          (refreshLamps (endHoldoff (passTime (seconds 30 - e) s))).frg.denial = some reason := fun denied => by
      rw [refreshLamps_frg]; exact endHoldoff_denied before (check.trans denied)
    refine ⟨_, exec_holdoffExpiry served running, ?_, holdoff, thaw, urgency.trans (passTime_urgency _ s), period, staged,
      fun noFire active neighbours => ?_, fun fire => denies (finds.combustion fire),
      fun noFire inactive => denies (finds.line noFire inactive),
      fun noFire active thaws => denies (finds.peerThaw noFire active thaws),
      fun noFire active noThaw ahead => denies (finds.peerPrecedence noFire active noThaw ahead)⟩
    · rw [refreshLamps_uptime, (endHoldoff_kept _).uptime, passTime_uptime (powered_of_inService served)]
    · obtain ⟨state, power, heat, denial⟩ :=
        endHoldoff_passes before (check.trans (finds.passes noFire active neighbours))
      rw [announcement, refreshLamps_frg, state]
      exact ⟨rfl, power, heat, denial.trans (passTime_denial _ s), rfl⟩

end

section
/-! SUPPORT. The lamps (R175): their patterns by their causes, what leaves the causes alone, the command that every lamp follows,
and the steps of a flashing lamp. -/

namespace Sys2Proof.Machine
open Sys2Proof.Safety

/-! ### Causes and patterns -/

theorem boostingFlag_iff (s : State) :
    boostingFlag s = true ↔ (topEntry s.mst).origin = .button ∨ (topEntry s.mst).origin = .humBoost := by
  simp [boostingFlag]

/-- Either record is in a state, as a record of some path is. -/
theorem eitherFilter_iff (s : State) (p : FilterState → Bool) :
    eitherFilter s p = true ↔ ∃ f, p (filterRecord s f).state = true := by
  rw [eitherFilter, Bool.or_eq_true]
  constructor
  · rintro (sup | ext)
    · exact ⟨.sup, sup⟩
    · exact ⟨.ext, ext⟩
  · rintro ⟨f, h⟩
    cases f
    · exact .inl h
    · exact .inr h

theorem filterPattern_flash {s : State} (h : ∃ f, (filterRecord s f).state = .overdue ∨ (filterRecord s f).state = .blocked) :
    filterPattern s = .flash := if_pos ((eitherFilter_iff s _).2 (by simpa using h))

theorem filterPattern_of_not_late {s : State}
    (h : ∀ f, (filterRecord s f).state ≠ .overdue ∧ (filterRecord s f).state ≠ .blocked) :
    filterPattern s = if eitherFilter s (· == .due) then .steady else .dark :=
  if_neg fun late => by
    obtain ⟨f, state⟩ := (eitherFilter_iff s _).1 late
    have := h f
    simp_all

/-- Every place of the fault set is some kind's (R174). -/
theorem faultIndex_surjective (i : Fin 17) : ∃ k, faultIndex k = i := by
  have all : ∀ i : Fin 17, i ∈ faultOrder.map faultIndex := by decide
  obtain ⟨k, -, e⟩ := List.mem_map.1 (all i)
  exact ⟨k, e⟩

theorem anyFaultActive_iff (s : State) : anyFaultActive s = true ↔ ∃ k, (faultRecord s k).active = true := by
  rw [anyFaultActive, List.any_eq_true]
  constructor
  · rintro ⟨r, listed, active⟩
    obtain ⟨i, bound, rfl⟩ := Vector.mem_iff_getElem.1 (Vector.mem_toList_iff.1 listed)
    obtain ⟨k, place⟩ := faultIndex_surjective ⟨i, bound⟩
    exact ⟨k, by simpa [faultRecord, place] using active⟩
  · rintro ⟨k, active⟩
    exact ⟨_, Vector.mem_toList_iff.2 (Vector.getElem_mem _), active⟩

theorem faultPattern_unconfigured {s : State} (h : s.mpt.configResult ≠ .ok) : faultPattern s = .doubleFlash :=
  if_pos (by simpa [unconfigured] using h)

theorem faultPattern_of_configured {s : State} (h : s.mpt.configResult = .ok) : faultPattern s =
    if s.lnc.duplicate then .tripleFlash else if anyFaultActive s then .steady else .dark :=
  if_neg (by simp [unconfigured, h])

theorem lampsByCause : LampsByCause := by
  refine ⟨fun s => ⟨boostingFlag_iff s, filterPattern_flash, fun fine => ⟨fun due => ?_, fun noDue => ?_⟩,
    faultPattern_unconfigured, fun configured duplicate => ?_, fun configured single => ⟨fun active => ?_, fun quiet => ?_⟩⟩,
    fun l => ⟨fun dark => by simp [lampLit, dark], fun steady => by simp [lampLit, steady]⟩⟩
  · rw [filterPattern_of_not_late fine]
    exact if_pos ((eitherFilter_iff s _).2 (by simpa using due))
  · rw [filterPattern_of_not_late fine]
    exact if_neg fun any => by
      obtain ⟨f, due⟩ := (eitherFilter_iff s _).1 any
      exact noDue f (by simpa using due)
  · rw [faultPattern_of_configured configured, if_pos duplicate]
  · rw [faultPattern_of_configured configured, if_neg (by simp [single]), if_pos ((anyFaultActive_iff s).2 active)]
  · rw [faultPattern_of_configured configured, if_neg (by simp [single]), if_neg]
    intro any
    obtain ⟨k, active⟩ := (anyFaultActive_iff s).1 any
    rw [quiet k] at active; cases active

/-! ### What leaves the causes alone -/

theorem filterPattern_congr {s t : State} (h : ∀ f, (filterRecord t f).state = (filterRecord s f).state) :
    filterPattern t = filterPattern s := by simp [filterPattern, eitherFilter, h]

theorem faultPattern_congr {s t : State} (config : t.mpt.configResult = s.mpt.configResult)
    (duplicate : t.lnc.duplicate = s.lnc.duplicate) (faults : t.srf.faults = s.srf.faults) :
    faultPattern t = faultPattern s := by
  simp [faultPattern, unconfigured, anyFaultActive, config, duplicate, faults]

theorem boostingFlag_congr {s t : State} (above : t.mst.above = s.mst.above) (base : t.mst.base = s.mst.base) :
    boostingFlag t = boostingFlag s := by simp [boostingFlag, topEntry, above, base]

@[simp] theorem filterPattern_passTime (d : Nat) (s : State) : filterPattern (passTime d s) = filterPattern s :=
  filterPattern_congr fun f => by unfold passTime; split <;> cases f <;> rfl

@[simp] theorem faultPattern_passTime (d : Nat) (s : State) : faultPattern (passTime d s) = faultPattern s :=
  faultPattern_congr (by unfold passTime; split <;> rfl) (by unfold passTime; split <;> rfl)
    (by unfold passTime; split <;> rfl)

/-- A lamp takes the pattern it is given (R175). -/
@[simp] theorem setPattern_pattern (p : LampPattern) (l : Lamp) : (setPattern p l).pattern = p := by
  unfold setPattern; split
  · assumption
  · rfl

/-- A lamp that shows a pattern goes on in its cycle (R175). -/
theorem setPattern_of_shown {p : LampPattern} {l : Lamp} (h : l.pattern = p) : setPattern p l = l := if_pos h

/-! ### Every command -/

/-- In service the lamps show their causes once they are refreshed (R175). -/
theorem refreshLamps_follow {s : State} (h : inService s = true) : LampsFollow (refreshLamps s) := by
  have boosting : boostingFlag (refreshLamps s) = boostingFlag s := boostingFlag_congr (by simp) (by simp)
  have filters : filterPattern (refreshLamps s) = filterPattern s := filterPattern_congr (by simp)
  have faults : faultPattern (refreshLamps s) = faultPattern s := faultPattern_congr (by simp) (by simp) (by simp)
  rw [LampsFollow, boosting, filters, faults, refreshLamps, if_pos h]
  exact ⟨rfl, setPattern_pattern _ _, setPattern_pattern _ _⟩

theorem whenPowered_lampsFollow {effect : State → State} {s t : State} (h : whenPowered effect s = .next t)
    (served : inService t = true) : LampsFollow t := by
  unfold whenPowered at h
  split at h
  · cases h; exact refreshLamps_follow ((refreshLamps_kept _).inService ▸ served)
  · next off => cases h; exact absurd (powered_of_inService served) off

theorem whenInService_lampsFollow {effect : State → State} {s t : State} (h : whenInService effect s = .next t)
    (served : inService t = true) : LampsFollow t := by
  unfold whenInService at h
  split at h
  · cases h; exact refreshLamps_follow ((refreshLamps_kept _).inService ▸ served)
  · next out => cases h; exact absurd served out

/-- The supply's commands leave a part that is not in service (R166). -/
theorem powerOnState_not_inService (b : Bool) (s : State) : inService (powerOnState b s) = false := by
  cases b <;> rfl

/-- After every command but a level on a pin the lamps of a part in service show their causes (R175). -/
theorem exec_lampsFollow {i : Instr} {s t : State} (h : exec i s = .next t) (served : inService t = true)
    (noPin : ∀ pin high, i ≠ .inputLevelChange pin high) : LampsFollow t := by
  cases i <;> simp only [exec] at h
  case inputLevelChange pin high => exact absurd rfl (noPin pin high)
  case powerOn | powerLoss => cases h; rw [powerOnState_not_inService] at served; cases served
  case settlingWaitExpiry | memoryBusyPoll | memoryBusyTimeout | startLoadCompletion | conversionComplete | holdTimerExpiry
      | tachEdge | scanCompletion | boostDebounceExpiry | awayDebounceExpiry | combustionDebounceExpiry
      | cutoutDebounceExpiry | filterDebounceExpiry => exact whenPowered_lampsFollow h served
  all_goals exact whenInService_lampsFollow h served

/-- A level on a pin changes no lamp and no cause (R175). -/
theorem setPin_lampsFollow (pin : InputPin) (high : Bool) {s : State} (h : LampsFollow s) : LampsFollow (setPin pin high s) := by
  cases pin <;> exact h

/-! ### The steps of a flashing lamp -/

/-- The pattern that a flashing lamp's causes ask for (R175). -/
def lampCause (s : State) : FlashingLamp → LampPattern
  | .filter => filterPattern s
  | .fault => faultPattern s

theorem flashingLamp_refreshLamps {s : State} (served : inService s = true) (lamp : FlashingLamp) :
    flashingLamp (refreshLamps s).srf lamp = setPattern (lampCause s lamp) (flashingLamp s.srf lamp) := by
  rw [refreshLamps, if_pos served]; cases lamp <;> rfl

theorem flashingLamp_passTime {s : State} (on : s.powered = true) (d : Nat) (lamp : FlashingLamp) :
    flashingLamp (passTime d s).srf lamp = (flashingLamp s.srf lamp).pass d := by
  rw [passTime, if_pos on]; cases lamp <;> rfl

theorem flashingLamp_flashStep (lamp : FlashingLamp) (s : State) :
    flashingLamp (flashStep lamp s).srf lamp = nextPlace (flashingLamp s.srf lamp) := by cases lamp <;> rfl

theorem lampCause_passTime (d : Nat) (s : State) (lamp : FlashingLamp) : lampCause (passTime d s) lamp = lampCause s lamp := by
  cases lamp
  · exact filterPattern_passTime d s
  · exact faultPattern_passTime d s

theorem lampCause_flashStep (lamp : FlashingLamp) (s : State) : lampCause (flashStep lamp s) lamp = lampCause s lamp := by
  cases lamp <;> rfl

/-- A flashing lamp's next place depends on its pattern and its place alone (R175). -/
theorem nextPlace_of_flashing {l : Lamp} (flashes : patternTimes l.pattern ≠ []) :
    nextPlace l = ⟨l.pattern, (l.place + 1) % (patternTimes l.pattern).length, 0⟩ := by
  unfold nextPlace; split
  · next none => exact absurd none flashes
  · rfl

theorem lampLit_flash {n : Nat} (h : n ≤ 1) (e : Nat) : lampLit ⟨.flash, n, e⟩ = (n == 0) :=
  (by decide : ∀ n ≤ 1, lampLit ⟨.flash, n, 0⟩ = (n == 0)) n h

theorem lampLit_doubleFlash {n : Nat} (h : n ≤ 3) (e : Nat) : lampLit ⟨.doubleFlash, n, e⟩ = (n == 0 || n == 2) :=
  (by decide : ∀ n ≤ 3, lampLit ⟨.doubleFlash, n, 0⟩ = (n == 0 || n == 2)) n h

theorem lampLit_tripleFlash {n : Nat} (h : n ≤ 5) (e : Nat) :
    lampLit ⟨.tripleFlash, n, e⟩ = (n == 0 || n == 2 || n == 4) :=
  (by decide : ∀ n ≤ 5, lampLit ⟨.tripleFlash, n, 0⟩ = (n == 0 || n == 2 || n == 4)) n h

/-- How long the places of each flashing pattern last (R175). -/
theorem flash_lasts {n : Nat} (h : n ≤ 1) : (patternTimes .flash).getD n 0 = millis 500 :=
  (by decide : ∀ n ≤ 1, (patternTimes .flash).getD n 0 = millis 500) n h

theorem doubleFlash_lasts {n time : Nat} (h : (n ≤ 2 ∧ time = 200) ∨ (n = 3 ∧ time = 1400)) :
    (patternTimes .doubleFlash).getD n 0 = millis time := by
  obtain ⟨low, rfl⟩ | ⟨rfl, rfl⟩ := h
  · exact (by decide : ∀ n ≤ 2, (patternTimes .doubleFlash).getD n 0 = millis 200) n low
  · rfl

theorem tripleFlash_lasts {n time : Nat} (h : (n ≤ 4 ∧ time = 200) ∨ (n = 5 ∧ time = 1000)) :
    (patternTimes .tripleFlash).getD n 0 = millis time := by
  obtain ⟨low, rfl⟩ | ⟨rfl, rfl⟩ := h
  · exact (by decide : ∀ n ≤ 4, (patternTimes .tripleFlash).getD n 0 = millis 200) n low
  · rfl

/-- LAMP_FLASH_STEP on a lamp that flashes as its causes ask: at the end of its place the lamp moves to the next place (R175). -/
theorem exec_lampFlashStep {s : State} (served : inService s = true) {lamp : FlashingLamp} {p : LampPattern}
    {n e time next : Nat} (shown : flashingLamp s.srf lamp = ⟨p, n, e⟩) (cause : lampCause s lamp = p)
    (flashes : patternTimes p ≠ []) (lasts : (patternTimes p).getD n 0 = time)
    (moves : next = (n + 1) % (patternTimes p).length) :
    ∃ t, exec (.lampFlashStep lamp) s = .next t ∧ t.uptime = s.uptime + (time - e) ∧
      flashingLamp t.srf lamp = ⟨p, next, 0⟩ := by
  have on := powered_of_inService served
  have timer : lampTimer ⟨p, n, e⟩ = some e := if_neg (by simpa [List.isEmpty_iff] using flashes)
  have moved : flashingLamp (flashStep lamp (passTime (time - e) s)).srf lamp = ⟨p, next, 0⟩ := by
    rw [flashingLamp_flashStep, flashingLamp_passTime on, shown, moves]
    exact nextPlace_of_flashing flashes
  refine ⟨refreshLamps (flashStep lamp (passTime (time - e) s)), ?_, ?_, ?_⟩
  · exact (whenInService_of _ s served).trans (by rw [shown, timer, atLimit_some, placeTime, lasts])
  · rw [refreshLamps_uptime]; exact passTime_uptime on _
  · rw [flashingLamp_refreshLamps (by exact (passTime_inService _ s).trans served), moved]
    exact setPattern_of_shown (by rw [lampCause_flashStep, lampCause_passTime, cause])

end Sys2Proof.Machine
end

section
/-! The statement of the lamps. -/

open Sys2Proof.Machine Sys2Proof.Safety

/-- Settles O49: the patterns by their causes, the lamps after every command, and the steps of each flashing pattern, place by
place. -/
theorem flashingLampsStep : Obligations.FlashingLampsStep := by
  unfold Obligations.FlashingLampsStep
  refine ⟨lampsByCause, fun i s t taken served noPin => exec_lampsFollow taken served noPin,
    fun pin high s t taken follow => ?_, fun s e n served =>
    ⟨fun next places shown cause => ?_, fun next time places shown cause => ?_, fun next time places shown cause => ?_⟩⟩
  · cases taken; exact setPin_lampsFollow pin high follow
  · have now : n ≤ 1 := by omega
    have later : next ≤ 1 := by omega
    obtain ⟨t, taken, uptime, moved⟩ := exec_lampFlashStep (lamp := .filter) (next := next) served shown cause nofun
      (flash_lasts now) (show next = (n + 1) % 2 by omega)
    refine ⟨t, taken, uptime, moved, ?_, ?_⟩
    · rw [shown, lampLit_flash now]
    · exact (congrArg lampLit moved).trans (lampLit_flash later 0)
  · have now : n ≤ 3 := by omega
    have later : next ≤ 3 := by omega
    obtain ⟨t, taken, uptime, moved⟩ := exec_lampFlashStep (lamp := .fault) (next := next) served shown cause nofun
      (doubleFlash_lasts (time := time) (by omega)) (show next = (n + 1) % 4 by omega)
    refine ⟨t, taken, uptime, moved, ?_, ?_⟩
    · rw [shown, lampLit_doubleFlash now]
    · exact (congrArg lampLit moved).trans (lampLit_doubleFlash later 0)
  · have now : n ≤ 5 := by omega
    have later : next ≤ 5 := by omega
    obtain ⟨t, taken, uptime, moved⟩ := exec_lampFlashStep (lamp := .fault) (next := next) served shown cause nofun
      (tripleFlash_lasts (time := time) (by omega)) (show next = (n + 1) % 6 by omega)
    refine ⟨t, taken, uptime, moved, ?_, ?_⟩
    · rw [shown, lampLit_tripleFlash now]
    · exact (congrArg lampLit moved).trans (lampLit_tripleFlash later 0)

end

section
/-! SUPPORT. The layouts of the reply records (11.6, R176): bits packed into bytes, codes as places in the lists of R176, and the
records of the six spaces as fields of given widths. -/

namespace Sys2Proof.Machine
open Sys2Proof.Safety

/-! ### Bytes -/

/-- Eight bits make a byte with the first of them as its most significant bit (R176). -/
theorem getMsbD_bitsToByte {bits : List Bool} (h : bits.length = 8) (i : Nat) :
    (packBytes.bitsToByte bits).getMsbD i = bits.getD i false := by
  match bits, h with
  | [a, b, c, d, e, f, g, h], _ =>
    have whole : packBytes.bitsToByte [a, b, c, d, e, f, g, h] = BitVec.ofBoolListBE [a, b, c, d, e, f, g, h] := by
      revert a b c d e f g h; decide
    rw [whole]
    exact BitVec.getMsbD_ofBoolListBE

/-- The last bits, fewer than eight, are filled up with zero bits (R176). -/
theorem packBytes_of_short {bits : List Bool} (any : 0 < bits.length) (short : bits.length < 8) :
    packBytes bits = [packBytes.bitsToByte (bits ++ List.replicate (8 - bits.length) false)] := by
  rw [packBytes]
  · rintro rfl; simp at any
  · rintro a b c d e f g h rest rfl; simp only [List.length_cons] at short; omega

/-- Eight more bits are one more byte (R176). -/
theorem packBytes_append {byte : List Bool} (h : byte.length = 8) (rest : List Bool) :
    packBytes (byte ++ rest) = packBytes.bitsToByte byte :: packBytes rest := by
  match byte, h with
  | [a, b, c, d, e, f, g, h], _ => rfl

/-- Bits taken eight by eight, with fewer than eight left at the end. -/
theorem bits_byBytes {motive : List Bool → Prop} (short : ∀ bits, bits.length < 8 → motive bits)
    (byte : ∀ eight rest, eight.length = 8 → motive rest → motive (eight ++ rest)) (bits : List Bool) : motive bits := by
  by_cases few : bits.length < 8
  · exact short bits few
  · rw [← List.take_append_drop 8 bits]
    exact byte _ _ (by simp; omega) (bits_byBytes short byte (bits.drop 8))
termination_by bits.length
decreasing_by simp; omega

theorem packBytes_length (bits : List Bool) : (packBytes bits).length = (bits.length + 7) / 8 := by
  induction bits using bits_byBytes with
  | short bits few =>
    rcases Nat.eq_zero_or_pos bits.length with none | any
    · rw [List.length_eq_zero_iff.1 none]; rfl
    · rw [packBytes_of_short any few, List.length_singleton]; omega
  | byte eight rest whole ih => rw [packBytes_append whole, List.length_cons, ih, List.length_append, whole]; omega

/-- Bit `i` stands at its place of its byte, most significant first, and the bits beyond the last are zero (R176). -/
theorem packBytes_bit (bits : List Bool) : ∀ i, i < 8 * (packBytes bits).length →
    (packBytes bits)[i / 8]?.map (fun b => b.getMsbD (i % 8)) = some (bits.getD i false) := by
  induction bits using bits_byBytes with
  | short bits few =>
    intro i inside
    have one : i < 8 := by rw [packBytes_length] at inside; omega
    have any : 0 < bits.length := by rw [packBytes_length] at inside; omega
    rw [packBytes_of_short any few, Nat.div_eq_of_lt one, Nat.mod_eq_of_lt one, List.getElem?_cons_zero, Option.map_some,
      getMsbD_bitsToByte (by simp; omega)]
    by_cases given : i < bits.length
    · simp [List.getD_eq_getElem?_getD, List.getElem?_append_left given]
    · have filled : i - bits.length < 8 - bits.length := by omega
      simp [List.getD_eq_getElem?_getD, List.getElem?_append_right (Nat.le_of_not_lt given), filled,
        Nat.le_of_not_lt given]
  | byte eight rest whole ih =>
    intro i inside
    rw [packBytes_append whole] at inside ⊢
    by_cases first : i < 8
    · rw [Nat.div_eq_of_lt first, Nat.mod_eq_of_lt first, List.getElem?_cons_zero, Option.map_some,
        getMsbD_bitsToByte whole, List.getD_eq_getElem?_getD, List.getD_eq_getElem?_getD,
        List.getElem?_append_left (by omega)]
    · obtain ⟨j, rfl⟩ := Nat.exists_eq_add_of_le' (Nat.le_of_not_lt first)
      rw [Nat.add_div_right _ (by decide), Nat.add_mod_right, List.getElem?_cons_succ,
        ih j (by rw [List.length_cons] at inside; omega), List.getD_eq_getElem?_getD, List.getD_eq_getElem?_getD,
        List.getElem?_append_right (by omega), whole, Nat.add_sub_cancel]

/-! ### Codes and units -/

theorem wholeSeconds_eq : wholeSeconds = fun t => t / 48000 := rfl

theorem channelStateCode_eq (x : ChannelState) : channelStateCode x = [ChannelState.valid, .held, .fault].idxOf x := by
  cases x <;> rfl

theorem reasonCode_eq (x : Option Reason) :
    reasonCode x = [none, some Reason.opened, some .short, some .outOfRange].idxOf x := by
  rcases x with _ | _ | _ | _ <;> rfl

theorem fanStateCode_eq (x : FanState) : fanStateCode x = [FanState.off, .running, .settled, .fault].idxOf x := by
  cases x <;> rfl

theorem climateCode_eq (x : ClimateSet) : climateCode x = [ClimateSet.mild, .normal, .cold].idxOf x := by cases x <;> rfl

theorem frostStateCode_eq (x : FrostState) : frostStateCode x =
    [FrostState.clear, .watch, .preheat, .reduce, .intent, .thawU, .thawB, .recover, .fallback].idxOf x := by
  cases x <;> rfl

theorem announcementCode_eq (x : Announcement) :
    announcementCode x = [Announcement.none, .intent, .thawU, .thawB].idxOf x := by cases x <;> rfl

theorem denialCode_eq (x : Option Denial) : denialCode x =
    [none, some Denial.peerThaw, some .peerPrecedence, some .combustion, some .line].idxOf x := by
  rcases x with _ | _ | _ | _ | _ <;> rfl

theorem outdoorTagCode_eq (x : Option OutdoorTag) :
    outdoorTagCode x = if x = some .own then 0 else if x = some .terrace then 1 else 2 := by
  rcases x with _ | _ | _ | _ | _ <;> rfl

theorem portStateCode_eq (x : PortState) : portStateCode x = [PortState.loading, .idle, .saving].idxOf x := by cases x <;> rfl

theorem configResultCode_eq (x : ConfigResult) : configResultCode x =
    [ConfigResult.ok, .noMemory, .header, .configSum, .configRange].idxOf x := by cases x <;> rfl

theorem recordResultCode_eq (x : RecordResult) : recordResultCode x =
    [RecordResult.ok, .notRead, .recordSum, .recordRange].idxOf x := by cases x <;> rfl

theorem filterStateCode_eq (x : FilterState) : filterStateCode x =
    [FilterState.unreferenced, .clean, .loading, .due, .overdue, .blocked].idxOf x := by cases x <;> rfl

theorem originCode_eq (x : Origin) :
    originCode x = [Origin.base, .away, .humDry, .humBoost, .button, .combustion].idxOf x := by cases x <;> rfl

theorem lineStateCode_eq (x : LineState) : lineStateCode x = [LineState.off, .listen, .active, .quiet].idxOf x := by
  cases x <;> rfl

theorem markCode_eq (x : Option Slot) : markCode x = [none, some Slot.urgent, some .reply, some .state].idxOf x := by
  rcases x with _ | _ | _ | _ <;> rfl

theorem lineFaultCode_eq (x : LineFaultKind) : lineFaultCode x =
    [LineFaultKind.bitError, .crcError, .formError, .frameTimeout, .stuck].idxOf x := by cases x <;> rfl

theorem kindCode_eq (x : FrameKind) : kindCode x = kindCodeOr7 (some x) := by cases x <;> rfl

theorem kindCodeOr7_eq (x : Option FrameKind) : (x.map kindCode).getD 7 = kindCodeOr7 x := by
  rcases x with _ | x
  · rfl
  · exact kindCode_eq x

/-! ### STATUS -/

theorem channelBits_eq (s : State) (ch : Channel) : channelBits s ch = fieldBits (channelFields s ch) := by
  simp [channelBits, channelFields, fieldBits_cons, intBits_eq_natBits, channelStateCode_eq, reasonCode_eq]

theorem fanBits_eq (r : FanRecord) : fanBits r = fieldBits (fanFields r) := by
  simp [fanBits, fanFields, fieldBits_cons, flagBit_eq_natBits, fanStateCode_eq]

theorem modeBits_eq (s : State) : modeBits s = fieldBits (modeFields s) := by
  simp [modeBits, modeFields, fieldBits_cons, flagBit_eq_natBits, levelSetCode, climateCode_eq, Debounce.low, combustionActive]

theorem frostBits_eq (s : State) : frostBits s = fieldBits (frostFields s) := by
  simp [frostBits, frostFields, fieldBits_cons, flagBit_eq_natBits, temperatureBits, intBits_eq_natBits, frostStateCode_eq,
    announcementCode_eq, denialCode_eq, timedThawOn, Debounce.low, wholeSeconds_eq]

theorem ruleBits_eq (s : State) (i : Fin 4) : ruleBits s i =
    fieldBits [(6, s.hev.counters[i]), (1, (s.hev.counters[i] == s.params.rules[i].n).toNat)] := by
  simp [ruleBits, fieldBits_cons, flagBit_eq_natBits, ruleAsserted]

theorem evaluatorBits_eq (s : State) : evaluatorBits s = fieldBits (humidityFields s) := by
  simp [evaluatorBits, humidityFields, fieldBits_cons, flagBit_eq_natBits, temperatureBits, humidityBits,
    riseBits, intBits_eq_natBits, ruleBits_eq, newestSample]

theorem outdoorBits_eq (s : State) : outdoorBits s = fieldBits (outdoorFields s) := by
  simp [outdoorBits, outdoorFields, fieldBits_cons, flagBit_eq_natBits, temperatureBits, humidityBits, intBits_eq_natBits,
    outdoorTagCode_eq]

theorem portBits_eq (s : State) : portBits s = fieldBits (portFields s) := by
  simp [portBits, portFields, fieldBits_cons, flagBit_eq_natBits, portStateCode_eq, configResultCode_eq, recordResultCode_eq]

theorem statusBits_eq (s : State) : statusBits s = fieldBits (statusFields s) := by
  have channels : channelOrder.flatMap (channelBits s) = fieldBits (channelOrder.flatMap (channelFields s)) := by
    simp [channelOrder, fieldBits_append, channelBits_eq]
  rw [statusBits, channels, fanBits_eq, fanBits_eq, modeBits_eq, frostBits_eq, evaluatorBits_eq, outdoorBits_eq, portBits_eq]
  simp only [← fieldBits_append]; rfl

theorem statusBits_length (s : State) : (statusBits s).length = 479 := by
  rw [statusBits_eq, fieldBits_length]
  simp [statusFields, channelFields, fanFields, modeFields, frostFields, humidityFields, outdoorFields, portFields]

/-! ### The other spaces -/

theorem filterBits_eq (s : State) (f : Fan) : filterBits s f = fieldBits (filterFields s f (filterRecord s f)) := by
  cases f <;> simp [filterBits, filterFields, fieldBits_cons, flagBit_eq_natBits, filterStateCode_eq, extractBits,
    wholeSeconds_eq]

theorem peerBits_of_entry {s : State} {i : Nat} {x : PeerEntry} (h : s.ptb.entries[i]? = some x) :
    peerBits s i = fieldBits (peerFields x) := by
  simp [peerBits, h, entryBits, peerFields, fieldBits_cons, flagBit_eq_natBits, temperatureBits, humidityBits,
    intBits_eq_natBits, announcementCode_eq]

theorem peerBits_of_empty {s : State} {i : Nat} (h : s.ptb.entries[i]? = none) :
    peerBits s i = fieldBits [(4, 15), (50, Config.openField s.freeIndex i)] := by
  simp [peerBits, h, fieldBits_cons, openBits]

theorem modeSlotBits_of_entry {s : State} {i : Nat} {x : ModeEntry} (h : (s.mst.above ++ [s.mst.base])[i]? = some x) :
    modeSlotBits s i = fieldBits (modeSlotFields x) := by
  simp only [modeSlotBits, stackEntries, h]
  simp [modeEntryBits, modeSlotFields, fieldBits_cons, originCode_eq]

theorem modeSlotBits_of_empty {s : State} {i : Nat} (h : (s.mst.above ++ [s.mst.base])[i]? = none) :
    modeSlotBits s i = fieldBits [(3, 7), (35, Config.openField s.freeIndex i)] := by
  simp only [modeSlotBits, stackEntries, h]
  simp [fieldBits_cons, openBits]

theorem faultBits_eq (r : FaultRecord) : faultBits r = fieldBits (faultFields r) := by
  simp [faultBits, faultFields, fieldBits_cons, flagBit_eq_natBits]

/-- The fault set is in the order of R174. -/
theorem faultAt_of_order {s : State} {i : Nat} {k : FaultKind} (h : faultOrder[i]? = some k) : faultAt s i = faultRecord s k := by
  have placed : ∀ i : Fin faultOrder.length, (faultIndex faultOrder[i]).val = i.val := by decide
  obtain ⟨bound, rfl⟩ := List.getElem?_eq_some_iff.1 h
  have place : (faultIndex faultOrder[i]).val = i := placed ⟨i, bound⟩
  have inside : i < 17 := bound
  simp [faultAt, faultRecord, place, inside]

/-! ### LINE -/

/-- A value of the LINE record that is there, or the free value of its place (log 10). -/
def valueOr (s : State) (field : Nat) (v : Option Nat) : Nat := v.getD (Config.openField s.freeIndex field)

theorem elapsedBits_eq (s : State) (field w : Nat) (v : Option Nat) : elapsedBits s field w v = natBits w (valueOr s field v) := by
  cases v <;> rfl

theorem slotBits_eq (s : State) (field : Nat) (x : Option Frame) : slotBits s field x =
    natBits 1 x.isSome.toNat ++ natBits 3 (valueOr s field (x.map fun x => kindCode x.kind)) := by
  cases x <;> simp [slotBits, openBits, valueOr, flagBit_eq_natBits]

theorem captureBits_eq (s : State) : captureBits s = fieldBits
    [(1, s.lnc.capture.isSome.toNat), (3, valueOr s 5 (s.lnc.capture.map fun c => lineFaultCode c.fault)),
     (1, (s.lnc.capture.bind LineCapture.sender).isSome.toNat),
     (4, valueOr s 6 ((s.lnc.capture.bind LineCapture.sender).map BitVec.toNat)),
     (3, kindCodeOr7 (s.lnc.capture.bind LineCapture.kind)), (32, valueOr s 7 (s.lnc.capture.map fun c => c.time.toNat))] := by
  unfold captureBits
  cases s.lnc.capture with
  | none => simp [fieldBits_cons, flagBit_eq_natBits, openBits, valueOr, ← kindCodeOr7_eq]
  | some c =>
    cases sender : c.sender <;>
      simp [fieldBits_cons, flagBit_eq_natBits, captureSenderBits, openBits, valueOr, sender, ← kindCodeOr7_eq]

theorem lineRecordBits_is (s : State) : LineRecordIs s (lineRecordBits s) := by
  refine ⟨valueOr s 0 (s.lnc.quiet.map wholeSeconds), valueOr s 1 (s.lnc.listenIn.map wholeSeconds),
    valueOr s 2 (s.lnc.urgent.map fun x => kindCode x.kind), valueOr s 3 (s.lnc.reply.map fun x => kindCode x.kind),
    valueOr s 4 (s.lnc.stateSlot.map fun x => kindCode x.kind),
    valueOr s 5 (s.lnc.capture.map fun c => lineFaultCode c.fault),
    valueOr s 6 ((s.lnc.capture.bind LineCapture.sender).map BitVec.toNat),
    valueOr s 7 (s.lnc.capture.map fun c => c.time.toNat), ?_, ?_, ?_, ?_, ?_, ?_, ?_⟩
  · simp [lineRecordBits, fieldBits_cons, elapsedBits_eq, slotBits_eq, captureBits_eq, lineStateCode_eq, markCode_eq]
  · intro n running; rw [running]; rfl
  · intro n running; rw [running]; rfl
  · intro x held; rw [held]; exact kindCode_eq x.kind
  · intro x held; rw [held]; exact kindCode_eq x.kind
  · intro x held; rw [held]; exact kindCode_eq x.kind
  · intro c captured
    rw [captured]
    refine ⟨rfl, lineFaultCode_eq c.fault, fun p sender => ?_⟩
    rw [Option.bind_some, sender]; rfl

theorem laysOutRecords : LaysOutRecords := by
  refine ⟨fun bits => ⟨packBytes_length bits, packBytes_bit bits⟩, fun s => ⟨statusBits_eq s, statusBits_length s,
    filterBits_eq s .sup, filterBits_eq s .ext, fun _ _ entry => peerBits_of_entry entry,
    fun _ empty => ⟨_, peerBits_of_empty empty⟩, fun _ _ entry => modeSlotBits_of_entry entry,
    fun _ empty => ⟨_, modeSlotBits_of_empty empty⟩, fun i k place => ?_, lineRecordBits_is s⟩⟩
  rw [← faultBits_eq, ← faultAt_of_order place]; rfl

end Sys2Proof.Machine
end

section
/-! SUPPORT. The service responder (11.1): the end of the reception of a frame from another station, the queries it answers and
the clears it takes. -/

namespace Sys2Proof.Machine
open Sys2Proof.Safety

/-! ### A correct frame of another station (R127) -/

theorem accept_of_other {sender : Position} {s : State} (h : s.params.position ≠ some sender) (handOn : State → State) :
    accept sender handOn s = handOn (heardState sender s) := if_neg h

/-- The end of the reception of a correct frame from another station, at a station that listens (R126, R127). -/
theorem whenInService_receive {kind : FrameKind} {sender : Position} {payload : List Byte} {s : State} {d : Nat}
    (handOn : State → State) (served : inService s = true) (on : s.lnc.state ≠ .off) (listens : s.lnc.shifter = none)
    (other : s.params.position ≠ some sender) (ends : reception s.lnc = some (d, .correct kind sender payload)) :
    whenInService (receive kind sender payload handOn) s =
      .next (refreshLamps (handOn (heardState sender (passTime d s)))) := by
  have listening : receiving s = true := by simp [receiving, on, listens]
  rw [whenInService_of _ _ served, receive, whenJudged_of _ listening ends,
    accept_of_other (by rwa [passTime_params])]

theorem heardState_uptime {s : State} (served : inService s = true) (d : Nat) (sender : Position) :
    (heardState sender (passTime d s)).uptime = s.uptime + d := passTime_uptime (powered_of_inService served) d

theorem heardState_lineState (sender : Position) (d : Nat) (s : State) :
    (heardState sender (passTime d s)).lnc.state = s.lnc.state := passTime_lineState d s

theorem heardState_position (sender : Position) (d : Nat) (s : State) :
    (heardState sender (passTime d s)).params.position = s.params.position := by rw [← passTime_params d s]; rfl

theorem heardState_reply (sender : Position) (d : Nat) (s : State) :
    (heardState sender (passTime d s)).lnc.reply = s.lnc.reply := by
  unfold passTime; split <;> rfl

theorem heardState_capture (sender : Position) (d : Nat) (s : State) :
    (heardState sender (passTime d s)).lnc.capture = s.lnc.capture := by
  unfold passTime; split <;> rfl

theorem heardState_faultRecord (sender : Position) (d : Nat) (s : State) {k : FaultKind} (h : k ≠ .lineErrors) :
    faultRecord (heardState sender (passTime d s)) k = faultRecord s k := by
  refine (faultRecord_setFault_other _ _ _ _ h).trans ?_
  unfold passTime; split <;> rfl

theorem heardState_lineErrors (sender : Position) (s : State) :
    (faultRecord (heardState sender s) .lineErrors).active = false := markInactive_inactive _ _

/-- A frame is for this station where it is ACTIVE and the target is its own position (R172). -/
theorem addressed_iff (s : State) (target : Byte) : addressed s target = true ↔
    s.lnc.state = .active ∧ ∃ own, s.params.position = some own ∧ target.toNat = own.toNat := by
  rw [addressed, Bool.and_eq_true, beq_iff_eq]
  refine and_congr_right fun _ => ?_
  cases s.params.position with
  | none => simp
  | some own => simpa using eq_comm

/-! ### Queries (R172) -/

theorem exec_queryOf (space : Space) (sender : Position) (payload : List Byte) (s : State) :
    exec (queryOf space sender payload) s =
      whenInService (receive .query sender payload (answerQuery space payload)) s := by cases space <;> rfl

theorem answerQuery_of_addressed {s : State} {space : Space} {target code : Byte} (h : addressed s target = true)
    (named : code.toNat = spaceCode space) (start count : Byte) : answerQuery space [target, code, start, count] s =
      stage .reply ⟨.reply, replyPayload s space start.toNat count.toNat⟩ { s with freeIndex := s.freeIndex + 1 } :=
  if_pos (by simp [h, named])

/-- A query that is not well formed, or not for this station, is not answered (R172). -/
theorem answerQuery_of_other {s : State} {space : Space} {payload : List Byte}
    (h : ∀ target code start count, payload = [target, code, start, count] → addressed s target = true →
      code.toNat ≠ spaceCode space) : answerQuery space payload s = s := by
  unfold answerQuery; split
  · next target code start count =>
    exact if_neg fun asked => by
      obtain ⟨mine, named⟩ := Bool.and_eq_true_iff.1 asked
      exact h _ _ _ _ rfl mine (by simpa using named)
  · rfl

theorem answerQuery_uptime (space : Space) (payload : List Byte) (s : State) :
    (answerQuery space payload s).uptime = s.uptime := by
  unfold answerQuery; (repeat' split) <;> rfl

theorem answerQuery_lastSender (space : Space) (payload : List Byte) (s : State) :
    (answerQuery space payload s).lnc.lastSender = s.lnc.lastSender := by
  unfold answerQuery; split
  · split
    · exact (stage_kept _ _ _).lastSender
    · rfl
  · rfl

/-- A reply stands in its slot of a line that is not OFF (R129). -/
theorem stage_reply {s : State} (on : s.lnc.state ≠ .off) (f : Frame) : (stage .reply f s).lnc.reply = some f := by
  simp [stage, stageIn, on, setSlot]

/-- A reply's first byte: the space, RANGE, and the number of records sent (11.5). -/
theorem replyHeader_eq (space : Space) (range : Bool) {sent : Nat} (h : sent < 16) : replyHeader space range sent =
    BitVec.ofNat 8 (spaceCode space * 32 + (if range then 16 else 0) + sent) := by
  have all : ∀ sent < 16, ∀ range, replyHeader space range sent =
      BitVec.ofNat 8 (spaceCode space * 32 + (if range then 16 else 0) + sent) := by cases space <;> decide
  exact all sent h range

theorem replyPayload_of_range {space : Space} {start count : Byte} (h : spaceSize space < start.toNat + count.toNat)
    (s : State) : replyPayload s space start.toNat count.toNat = [BitVec.ofNat 8 (spaceCode space * 32 + 16), start] := by
  rw [replyPayload, if_pos h, replyHeader_eq _ _ (by decide)]; simp

theorem spaceFit_lt (space : Space) : spaceFit space < 16 := by cases space <;> decide

theorem replyPayload_of_inside {space : Space} {start count : Byte} (h : start.toNat + count.toNat ≤ spaceSize space)
    (s : State) : replyPayload s space start.toNat count.toNat =
      [BitVec.ofNat 8 (spaceCode space * 32 + min count.toNat (spaceFit space)), start] ++
        (List.range (min count.toNat (spaceFit space))).flatMap fun k => packBytes (recordBits s space (start.toNat + k)) := by
  have few : replyCount space count.toNat < 16 := Nat.lt_of_le_of_lt (Nat.min_le_right _ _) (spaceFit_lt space)
  rw [replyPayload, if_neg (Nat.not_lt.2 h), replyHeader_eq _ _ few]; simp [replyCount]

/-! ### Clears (R173) -/

theorem takeClear_of_addressed {s : State} {target code : Byte} {item : Nat} (h : addressed s target = true)
    (named : code.toNat = item) (effect : State → State) : takeClear item effect [target, code] s = effect s :=
  if_pos (by simp [h, named])

/-- A clear of another item, or not for this station, has no effect (R173). -/
theorem takeClear_of_other {s : State} {item : Nat} {payload : List Byte} (effect : State → State)
    (h : ∀ target code, payload = [target, code] → addressed s target = true → code.toNat ≠ item) :
    takeClear item effect payload s = s := by
  unfold takeClear; split
  · next target code =>
    exact if_neg fun asked => by
      obtain ⟨mine, named⟩ := Bool.and_eq_true_iff.1 asked
      exact h _ _ rfl mine (by simpa using named)
  · rfl

theorem faultRecord_clearCounts (s : State) (k : FaultKind) : faultRecord (clearCounts s) k =
    if (faultRecord s k).active then faultRecord s k else FaultRecord.atPowerOn := by
  exact Vector.getElem_map _ _

theorem fan_clearRetries (s : State) (f : Fan) : fan (clearRetries s) f = clearRetry (fan s f) := by
  rw [clearRetries, fansChanged_fan]; cases f <;> rfl

theorem clearRetry_of_fault {r : FanRecord} (h : r.state = .fault) : clearRetry r = retryFan 0 r := if_pos h

theorem clearRetry_of_other {r : FanRecord} (h : r.state ≠ .fault) : clearRetry r = { r with retryCount := 0 } := if_neg h

/-- The CLEAR commands and the items they are for. -/
theorem exec_clear {i : Instr} {sender : Position} {payload : List Byte} {item : Nat}
    (h : (i = .clearLineCapture sender payload ∧ item = 0) ∨ (i = .clearFaultCounts sender payload ∧ item = 1) ∨
      (i = .clearFanRetry sender payload ∧ item = 2)) (s : State) :
    ∃ effect, exec i s = whenInService (receive .clear sender payload (takeClear item effect payload)) s := by
  obtain ⟨rfl, rfl⟩ | ⟨rfl, rfl⟩ | ⟨rfl, rfl⟩ := h <;> exact ⟨_, rfl⟩

end Sys2Proof.Machine
end

section
/-! The statements of service access. -/

open Sys2Proof.Machine Sys2Proof.Safety

/-- Settles O44: the layouts, then the frame as it is heard; a query for this station by its range, and every other one as
unanswered. -/
theorem queriesStageAReply : Obligations.QueriesStageAReply := by
  unfold Obligations.QueriesStageAReply
  refine ⟨laysOutRecords, fun s space sender payload d served on listens other ends => ?_⟩
  have line := heardState_lineState sender d s
  have position := heardState_position sender d s
  have unanswered : (∀ target code start count, payload = [target, code, start, count] → s.lnc.state = .active →
      (∃ own, s.params.position = some own ∧ target.toNat = own.toNat) → code.toNat ≠ spaceCode space) →
      (refreshLamps (answerQuery space payload (heardState sender (passTime d s)))).lnc.reply = s.lnc.reply := by
    intro no
    rw [refreshLamps_lnc, answerQuery_of_other, heardState_reply]
    intro target code start count shape mine
    rw [addressed_iff, line, position] at mine
    exact no target code start count shape mine.1 mine.2
  refine ⟨_, (exec_queryOf space sender payload s).trans (whenInService_receive _ served on listens other ends), ?_, ?_, ?_,
    fun inactive => unanswered fun _ _ _ _ _ active _ => absurd active inactive,
    fun long => unanswered fun _ _ _ _ shape _ _ => absurd (by rw [shape]; rfl) long,
    fun target first stranger => unanswered fun _ _ _ _ shape _ ⟨own, mine, same⟩ => ?_,
    fun code second unnamed => unanswered fun _ _ _ _ shape _ _ => ?_⟩
  · rw [refreshLamps_uptime, answerQuery_uptime, heardState_uptime served]
  · rw [refreshLamps_lnc, answerQuery_lastSender]; rfl
  · rintro own target code start count active mine rfl same named
    have asked : addressed (heardState sender (passTime d s)) target = true :=
      (addressed_iff _ _).2 ⟨line.trans active, own, position.trans mine, same⟩
    rw [refreshLamps_lnc, answerQuery_of_addressed asked named, stage_reply (by exact line ▸ on)]
    refine ⟨fun past => by rw [replyPayload_of_range past], fun inside =>
      ⟨_, _, rfl, ?_, rfl, by rw [replyPayload_of_inside inside]⟩⟩
    have := Nat.min_le_left count.toNat (spaceFit space)
    omega
  · rw [shape] at first; cases first; exact absurd same (stranger own mine)
  · rw [shape] at second; cases second; exact unnamed

/-- Settles O45: each clear for this station by its effect on the state in which the frame is heard, and every other clear by that
state alone. -/
theorem clearsActAtTheFrame : Obligations.ClearsActAtTheFrame := by
  unfold Obligations.ClearsActAtTheFrame
  intro s sender own target d served active listens position other same
  have on : s.lnc.state ≠ .off := by rw [active]; decide
  have stranger : s.params.position ≠ some sender := by rw [position]; simpa using other
  have asked : addressed (heardState sender (passTime d s)) target = true := (addressed_iff _ _).2
    ⟨(heardState_lineState sender d s).trans active, own, (heardState_position sender d s).trans position, same⟩
  have uptime := heardState_uptime served d sender
  refine ⟨fun ends => ?_, fun ends => ?_, fun ends => ?_, fun i payload item command ends unasked => ?_⟩
  · refine ⟨_, whenInService_receive _ served on listens stranger ends, ?_⟩
    rw [takeClear_of_addressed (item := 0) asked rfl, refreshLamps_lnc, refreshLamps_uptime]
    exact ⟨uptime, rfl, rfl, heardState_reply sender d s⟩
  · refine ⟨_, whenInService_receive _ served on listens stranger ends, ?_⟩
    rw [takeClear_of_addressed (item := 1) asked rfl, refreshLamps_msc, refreshLamps_uptime]
    refine ⟨uptime, fun k foreign stands => ?_, fun k cleared => ?_, rfl⟩
    · rw [faultRecord_refreshLamps, faultRecord_clearCounts, heardState_faultRecord _ _ _ foreign, if_pos stands]
    · rw [faultRecord_refreshLamps, faultRecord_clearCounts]
      refine if_neg (Bool.eq_false_iff.1 ?_)
      by_cases line : k = .lineErrors
      · rw [line]; exact heardState_lineErrors _ _
      · rw [heardState_faultRecord _ _ _ line]; exact cleared.resolve_left line
  · refine ⟨_, whenInService_receive _ served on listens stranger ends, ?_⟩
    rw [takeClear_of_addressed (item := 2) asked rfl, refreshLamps_uptime, (clearRetries_kept _).uptime]
    have heard : ∀ f, fan (heardState sender (passTime d s)) f =
        { fan s f with retryPause := countDown d (fan s f).retryPause } := fun f =>
      (passTime_fan d s f).trans (if_pos (powered_of_inService served))
    refine ⟨uptime, fun f fault => ?_, fun f turning => ?_, fun f => ?_⟩
    · rw [fan_of_fdr (refreshLamps_fdr _), fan_clearRetries, heard, clearRetry_of_fault (by exact fault)]; rfl
    · rw [fan_of_fdr (refreshLamps_fdr _), fan_clearRetries]
      exact clearRetry_of_other (by rw [heard]; exact turning)
    · rw [faultRecord_refreshLamps, faultRecord_of_srf (clearRetries_srf _), heardState_faultRecord (k := .fan f) _ _ _ nofun]
  · obtain ⟨effect, taken⟩ := exec_clear command s
    refine ⟨_, taken.trans (whenInService_receive _ served on listens stranger ends), ?_⟩
    rw [takeClear_of_other, refreshLamps_uptime, refreshLamps_lnc, refreshLamps_fdr]
    · exact ⟨uptime, rfl, heardState_capture sender d s,
        fun k foreign => (faultRecord_refreshLamps _ _).trans (heardState_faultRecord _ _ _ foreign), rfl⟩
    · intro target code shape toUs
      obtain ⟨-, found, known, mine⟩ := (addressed_iff _ _).1 toUs
      rw [heardState_position, position] at known
      cases known
      exact unasked target code shape mine

end

section
/-! SUPPORT. What a block holds that its own events alone may change: each such part as a view of the state, the commands that own
it, and what leaves it as it is. -/

namespace Sys2Proof.Machine
open Sys2Proof.Safety

/-- The parts of the state that the events of one block alone may change. -/
inductive BlockPart where
  | stack | channels | peers | humidity | sender | params | fans | counts | load | line | outdoor

/-- The commands that may change a part. -/
def owns (p : BlockPart) (i : Instr) : Bool :=
  match p with
  | .stack => movesStack i
  | .channels => samplesChannels i
  | .peers => changesPeers i
  | .humidity => decide (i = .humidityEvaluation) || ofSupply i
  | .sender => movesLastSender i
  | .params => mayComplete i || ofSupply i
  | .fans => movesFans i
  | .counts => countsFilters i
  | .load => movesLoad i
  | .line => movesLine i
  | .outdoor => movesOutdoor i

/-- What is seen of a mode stack: its entries and the sequence counter. -/
def stackView (m : ModeStack) := (m.above, m.base, m.counter)

/-- What is seen of a channel's record: the value that readers receive, its state, reason and good-run count. -/
def channelView (r : ChannelRecord) := (if r.state = .fault then none else r.value, r.state, r.reason, r.goodRun)

/-- What is seen of the humidity evaluator: the ring, the rules' counters and the two requests. -/
def humidityView (m : Humidity) := (m.ring, m.counters, m.boost, m.dry)

/-- What is seen of a fan: its flows, duty, state and retry count. -/
def fanView (r : FanRecord) := (r.target, r.commanded, r.duty, r.state, r.retryCount)

/-- What is seen of a filter record: its counts and its reference. -/
def countsView (r : FilterRecord) := (r.volume, r.remainder, r.runHours, r.runSeconds, r.dpRef, r.qRef)

/-- What is seen of the line controller: its line state, failure count, fault capture and duplicate flag. -/
def lineView (m : LineController) := (m.state, m.failures, m.capture, m.duplicate)

/-- What is seen of the outdoor resolver: the plume flag, the references and the effective values with their tags. -/
def outdoorView (m : Outdoor) := (m.plume, m.tRef, m.rhRef, m.tOut, m.tTag, m.rhOut, m.rhTag)

/-- What is seen of a part. -/
def BlockPart.Value : BlockPart → Type
  | .stack => List ModeEntry × ModeEntry × SequenceWord
  | .channels => Channel → Option Int × ChannelState × Option Reason × Nat
  | .peers => List PeerEntry
  | .humidity => Vector (Option Int) 16 × Vector Nat 4 × Bool × Bool
  | .sender => Position
  | .params => Params
  | .fans => Fan → Nat × Nat × Nat × FanState × Nat
  | .counts => Fan → Nat × Nat × Nat × Nat × Option Nat × Option Nat
  | .load => Nat
  | .line => LineState × Nat × Option LineCapture × Bool
  | .outdoor => Bool × Option Int × Option Int × Option Int × Option OutdoorTag × Option Int × Option OutdoorTag

/-- A part as it stands in a state. -/
def BlockPart.view : (p : BlockPart) → State → p.Value
  | .stack, s => stackView s.mst
  | .channels, s => fun ch => channelView (channel s ch)
  | .peers, s => s.ptb.entries
  | .humidity, s => humidityView s.hev
  | .sender, s => s.lnc.lastSender
  | .params, s => s.params
  | .fans, s => fun f => fanView (fan s f)
  | .counts, s => fun f => countsView (filterRecord s f)
  | .load, s => s.frg.load
  | .line, s => lineView s.lnc
  | .outdoor, s => outdoorView s.odr

/-! ### Owners -/

section
variable {p : BlockPart} {i : Instr}

/-- A part that a command does not own is none of those it owns. -/
theorem ne_of_owns {q : BlockPart} (own : owns p i = false) (h : owns q i = true) : p ≠ q := by
  rintro rfl; rw [own] at h; cases h

/-- The commands of the supply own every part. -/
theorem owns_of_supply (p : BlockPart) (h : ofSupply i = true) : owns p i = true := by
  unfold ofSupply at h; split at h
  · cases p <;> rfl
  · cases p <;> rfl
  · cases h

/-- The commands at which the start load may complete own the same parts. -/
theorem owns_of_mayComplete (h : mayComplete i = true) (order : StartOrder) :
    owns p i = owns p (.startLoadCompletion order) := by
  unfold mayComplete at h; split at h
  · cases p <;> rfl
  · cases p <;> rfl
  · cases p <;> rfl
  · cases p <;> rfl
  · cases h

/-- A frame of another station owns the last sender, the fans, by the guard of R26 at a duplicate, and the line state. -/
theorem owns_sender_of_otherStation (h : ofOtherStation i = true) : owns .sender i = true := by
  change movesLastSender i = true
  unfold movesLastSender; split <;> simp [h]

theorem owns_fans_of_otherStation (h : ofOtherStation i = true) : owns .fans i = true := by
  change movesFans i = true
  unfold movesFans; split <;> simp [h]

theorem owns_line_of_otherStation (h : ofOtherStation i = true) : owns .line i = true := by
  change movesLine i = true
  unfold movesLine; split <;> simp [h]

/-- A discarded frame owns the line state. -/
theorem owns_line_of_discards (h : discardsFrame i = true) : owns .line i = true := by
  change movesLine i = true
  unfold movesLine; split <;> simp [h]

end

/-! ### One block's change

A hypothesis says that the part is left as it is where that block's part is the one looked at; its default is that the change
does not reach what is seen. -/

section
variable {p : BlockPart}

theorem view_queue (s : State) (q : List Instr) : p.view { s with pending := q } = p.view s := by cases p <;> rfl

/-- The memory port, the fault set, the serial memory and the free values are seen in no part. -/
theorem view_beside (s : State) (mpt : MemoryPort) (srf : Service) (memory : List Host.Cell) (freeIndex : Nat) :
    p.view { s with mpt := mpt, srf := srf, memory := memory, freeIndex := freeIndex } = p.view s := by cases p <;> rfl

theorem view_params (s : State) (params : Params) (mpt : MemoryPort) (other : p ≠ .params) :
    p.view { s with params := params, mpt := mpt } = p.view s := by
  cases p
  case params => exact absurd rfl other
  all_goals rfl

theorem view_scanner (s : State) (m : Scanner) (channels : p = .channels → m.channels = s.msc.channels := by intros; rfl) :
    p.view { s with msc := m } = p.view s := by
  cases p
  case channels => exact congrArg (fun all ch => channelView all[channelIndex ch]) (channels rfl)
  all_goals rfl

theorem view_fans (s : State) (m : FanDrive) (other : p ≠ .fans) : p.view { s with fdr := m } = p.view s := by
  cases p
  case fans => exact absurd rfl other
  all_goals rfl

theorem view_setFan (s : State) (f : Fan) (r : FanRecord) (fans : p = .fans → fanView r = fanView (fan s f) := by intros; rfl) :
    p.view (setFan s f r) = p.view s := by
  cases p
  case fans =>
    funext g
    cases f <;> cases g
    · exact fans rfl
    · rfl
    · rfl
    · exact fans rfl
  all_goals rfl

theorem view_setStack (s : State) (m : ModeStack) (stack : p = .stack → stackView m = stackView s.mst := by intros; rfl) :
    p.view (setStack m s) = p.view s := by
  cases p
  case stack => exact stack rfl
  all_goals rfl

theorem view_frost (s : State) (m : FrostGuard) (load : p = .load → m.load = s.frg.load := by intros; rfl) :
    p.view { s with frg := m } = p.view s := by
  cases p
  case load => exact load rfl
  all_goals rfl

theorem view_filters (s : State) (m : FilterMonitor)
    (counts : p = .counts → ∀ f, countsView (m.records.get f) = countsView (filterRecord s f) := by intros; rfl) :
    p.view { s with flm := m } = p.view s := by
  cases p
  case counts => exact funext (counts rfl)
  all_goals rfl

theorem view_setFilter (s : State) (f : Fan) (r : FilterRecord)
    (counts : p = .counts → countsView r = countsView (filterRecord s f) := by intros; rfl) :
    p.view (setFilter s f r) = p.view s := by
  refine view_filters s _ fun e g => ?_
  cases f <;> cases g
  · exact counts e
  · rfl
  · rfl
  · exact counts e

theorem view_humidity (s : State) (m : Humidity) (other : p ≠ .humidity) : p.view { s with hev := m } = p.view s := by
  cases p
  case humidity => exact absurd rfl other
  all_goals rfl

theorem view_setLine (s : State) (m : LineController) (sender : p = .sender → m.lastSender = s.lnc.lastSender := by intros; rfl)
    (line : p = .line → lineView m = lineView s.lnc := by intros; rfl) : p.view (setLine m s) = p.view s := by
  cases p
  case sender => exact sender rfl
  case line => exact line rfl
  all_goals rfl

theorem view_peers (s : State) (m : PeerTable) (other : p ≠ .peers) : p.view { s with ptb := m } = p.view s := by
  cases p
  case peers => exact absurd rfl other
  all_goals rfl

theorem view_outdoor (s : State) (m : Outdoor) (other : p ≠ .outdoor) : p.view { s with odr := m } = p.view s := by
  cases p
  case outdoor => exact absurd rfl other
  all_goals rfl

/-- Of what `Kept` lets change, the fans, the filter records' counts and the frost load are seen. -/
theorem Kept.view {s t : State} (k : Kept s t) (fans : p = .fans → t.fdr = s.fdr)
    (counts : p = .counts → t.flm = s.flm) (load : p = .load → t.frg.load = s.frg.load) : p.view t = p.view s := by
  cases p
  case stack => exact congrArg stackView k.mst
  case channels => exact funext fun ch => congrArg channelView (channel_of_msc k.msc ch)
  case peers => exact congrArg PeerTable.entries k.ptb
  case humidity => exact congrArg humidityView k.hev
  case sender => exact k.lastSender
  case params => exact k.params
  case fans => exact funext fun f => congrArg fanView (fan_of_fdr (fans rfl) f)
  case counts => exact funext fun f => congrArg countsView (filterRecord_of_flm (counts rfl) f)
  case load => exact load rfl
  case line =>
    have same : lineView t.lnc = lineView s.lnc := by simp only [lineView, k.lineState, k.failures, k.capture, k.duplicate]
    exact same
  case outdoor => exact congrArg outdoorView k.odr

/-- Time moves no part: of all that is seen, nothing is a timer. -/
theorem passTime_view (d : Nat) (s : State) : p.view (passTime d s) = p.view s := by
  cases p
  case channels =>
    funext ch
    simp only [BlockPart.view, passTime_channel]
    split <;> rfl
  case fans =>
    funext f
    simp only [BlockPart.view, passTime_fan]
    split <;> rfl
  case counts =>
    funext f
    unfold passTime; split
    · cases f <;> rfl
    · rfl
  all_goals unfold passTime; split <;> rfl

/-! ### The fault set, the saves and staging -/

theorem refreshLamps_view (s : State) : p.view (refreshLamps s) = p.view s := by
  obtain ⟨srf, e⟩ := refreshLamps_eq s; rw [e]; exact view_beside s _ _ _ _

theorem markActive_view (k : FaultKind) (s : State) : p.view (markActive k s) = p.view s := by
  obtain ⟨srf, e⟩ := markActive_eq k s; rw [e]; exact view_beside s _ _ _ _

theorem markInactive_view (k : FaultKind) (s : State) : p.view (markInactive k s) = p.view s := view_beside s _ _ _ _

theorem markIf_view (failed : Bool) (k : FaultKind) (s : State) : p.view (markIf failed k s) = p.view s := by
  unfold markIf; split
  · exact markActive_view k s
  · rfl

theorem requestSaves_view (n : Nat) (s : State) : p.view (requestSaves n s) = p.view s := by
  obtain ⟨mpt, srf, e⟩ := requestSaves_eq n s; rw [e]; exact view_beside s _ _ _ _

theorem requestSave_view (s : State) : p.view (requestSave s) = p.view s := requestSaves_view 1 s

theorem endSave_view (s : State) : p.view (endSave s) = p.view s := by
  unfold endSave; split <;> exact view_beside s _ _ _ _

theorem failByte_view (sv : Save) (s : State) : p.view (failByte sv s) = p.view s :=
  (endSave_view _).trans ((markActive_view _ _).trans (view_beside s _ _ _ _))

theorem byteWritten_view (sv : Save) (s : State) : p.view (byteWritten sv s) = p.view s := by
  unfold byteWritten; dsimp only; split
  · exact view_beside s _ _ _ _
  · exact (endSave_view _).trans (view_beside s _ _ _ _)

theorem lookAtSave_view (sv : Save) (status : Byte) (s : State) : p.view (lookAtSave sv status s) = p.view s := by
  unfold lookAtSave; split
  · exact (view_beside _ _ _ _ _).trans ((failByte_view _ _).trans (view_beside s _ _ _ _))
  · split <;> exact view_beside s _ _ _ _

theorem stage_view (slot : Slot) (f : Frame) (s : State) : p.view (stage slot f s) = p.view s :=
  (stage_kept slot f s).view (fun _ => rfl) (fun _ => rfl) (fun _ => rfl)

theorem composeState_view (s : State) : p.view (composeState s) = p.view s :=
  (composeState_kept s).view (fun _ => rfl) (fun _ => rfl) (fun _ => rfl)

end

end Sys2Proof.Machine
end

section
/-! SUPPORT. What the operations of the frost guard and the scanner leave as it is: every part but the load and the fans, and at a
sample the channels and the outdoor values. -/

namespace Sys2Proof.Machine
open Sys2Proof.Safety

section
variable {p : BlockPart}

/-! ### The frost guard -/

theorem breakCapture_view (f : Fan) (s : State) : p.view (breakCapture f s) = p.view s := by
  unfold breakCapture; split
  · rfl
  · exact view_setFilter s f _

theorem setIcePossible_view (s : State) : p.view (setIcePossible s) = p.view s :=
  (view_setFilter _ .ext _).trans (view_frost s _)

theorem assessIce_view (s : State) : p.view (assessIce s) = p.view s := by
  unfold assessIce iceCauseHolds iceCauseCeased; dsimp only; split
  · refine (view_frost _ _).trans ?_
    split
    · rfl
    · exact setIcePossible_view s
  · split
    · exact view_frost s _
    · rfl

theorem moveTo_view (st : FrostState) (s : State) : p.view (moveTo st s) = p.view s :=
  (assessIce_view _).trans (view_frost s _)

theorem moveCold_view (st : FrostState) (s : State) : p.view (moveCold st s) = p.view s :=
  (moveTo_view _ _).trans (view_frost s _)

theorem refreshAvailability_view (s : State) : p.view (refreshAvailability s) = p.view s := by
  unfold refreshAvailability withdrawPreheater; dsimp only; split
  · split
    · exact view_frost s _
    · split
      · exact (moveTo_view _ _).trans (view_frost s _)
      · exact view_frost s _
  · rfl

theorem fansChanged_view (s : State) : p.view (fansChanged s) = p.view s :=
  (refreshAvailability_view _).trans ((breakCapture_view _ _).trans (breakCapture_view _ s))

theorem guardFlows_view (fans : p ≠ .fans) (appears : Bool) (s : State) : p.view (guardFlows appears s) = p.view s := by
  obtain ⟨fdr, e⟩ := guardFlows_eq appears s; rw [e]; exact view_fans s fdr fans

theorem leftThawU_view (fans : p ≠ .fans) (s : State) : p.view (leftThawU s) = p.view s :=
  (fansChanged_view _).trans (guardFlows_view fans _ s)

theorem setPower_load (power : Nat) (m : FrostGuard) : (setPower power m).load = m.load := by
  unfold setPower; split <;> rfl

theorem enterThaw_view (st : FrostState) (power : Nat) (s : State) : p.view (enterThaw st power s) = p.view s :=
  (composeState_view _).trans ((moveTo_view _ _).trans (view_frost s _ fun _ => setPower_load _ _))

theorem deny_view (reason : Denial) (s : State) : p.view (deny reason s) = p.view s :=
  (enterThaw_view _ _ _).trans (view_frost s _)

theorem checkIntent_view (s : State) : p.view (checkIntent s) = p.view s := by
  unfold checkIntent; split
  · rfl
  · exact deny_view _ s

theorem recheckIntent_view (s : State) : p.view (recheckIntent s) = p.view s := by
  unfold recheckIntent; split
  · exact checkIntent_view s
  · rfl

theorem enterIntent_view (s : State) : p.view (enterIntent s) = p.view s :=
  (checkIntent_view _).trans ((stage_view _ _ _).trans ((moveTo_view _ _).trans (view_frost s _)))

theorem endHoldoff_view (s : State) : p.view (endHoldoff s) = p.view s := by
  unfold endHoldoff; split
  · split
    · exact enterThaw_view _ _ s
    · exact deny_view _ s
  · rfl

theorem convertThaw_view (fans : p ≠ .fans) (s : State) : p.view (convertThaw s) = p.view s := by
  unfold convertThaw; split
  · exact (leftThawU_view fans _).trans
      ((composeState_view _).trans ((moveTo_view _ _).trans (view_frost s _ fun _ => setPower_load _ _)))
  · rfl

theorem enterFallback_view (s : State) : p.view (enterFallback s) = p.view s := by
  have moved : ∀ m, m.load = s.frg.load →
      p.view (moveTo .fallback { s with frg := setPower (fallbackPower s) m }) = p.view s := fun m load =>
    (moveTo_view _ _).trans (view_frost s _ fun _ => (setPower_load _ m).trans load)
  unfold enterFallback; dsimp only; split
  · exact (stage_view _ _ _).trans (moved _ rfl)
  · exact moved _ rfl

theorem enterRecover_view (s : State) : p.view (enterRecover s) = p.view s :=
  (moveTo_view _ _).trans (view_frost s _)

/-- A thaw end sets the load to 0 and may bring the guard of R26 (R78). -/
theorem thawEnd_view (load : p ≠ .load) (fans : p ≠ .fans) (s : State) : p.view (thawEnd s) = p.view s := by
  have ended : ∀ (b : Bool) (t : State), p.view t = p.view s →
      p.view (if b = true then enterRecover t else enterFallback t) = p.view s := by
    intro b t same
    cases b with
    | true => exact (enterRecover_view t).trans same
    | false => exact (enterFallback_view t).trans same
  have staged : p.view (stageEnd { s with frg := { s.frg with thaw := none, load := 0, urgency := none } }) = p.view s :=
    (stage_view _ _ _).trans (view_frost s _ (absurd · load))
  unfold thawEnd; dsimp only; split
  · exact (leftThawU_view fans _).trans (ended _ _ staged)
  · exact ended _ _ staged

theorem leaveFallback_view (load : p ≠ .load) (s : State) : p.view (leaveFallback s) = p.view s := by
  have moved : ∀ m, p.view (moveTo .watch { s with frg := m }) = p.view s :=
    fun m => (moveTo_view _ _).trans (view_frost s m (absurd · load))
  unfold leaveFallback; dsimp only; split
  · exact (stage_view _ _ _).trans (moved _)
  · exact moved _

theorem startTimedThaw_view (s : State) : p.view (startTimedThaw s) = p.view s :=
  (composeState_view _).trans (view_frost s _)

theorem endTimedThaw_view (load : p ≠ .load) (s : State) : p.view (endTimedThaw s) = p.view s :=
  (stage_view _ _ _).trans (view_frost s _ (absurd · load))

theorem endPreheat_view (s : State) : p.view (endPreheat s) = p.view s := by
  unfold endPreheat; split
  · exact moveTo_view _ s
  · rfl

theorem thawTimedOut_view (load : p ≠ .load) (fans : p ≠ .fans) (s : State) : p.view (thawTimedOut s) = p.view s := by
  unfold thawTimedOut; split
  · exact thawEnd_view load fans s
  · rfl

theorem endRecover_view (s : State) : p.view (endRecover s) = p.view s := by
  unfold endRecover; split
  · exact (moveTo_view _ _).trans (view_frost s _)
  · rfl

/-- An index update moves no count and no reference (R94). -/
theorem updateIndex_countsView (params : Params) (index : Nat) (r : FilterRecord) :
    countsView (updateIndex params index r).1 = countsView r := by
  obtain ⟨_, _, _, e⟩ := updateIndex_eq params index r
  rw [e]; rfl

/-- Clearing the ice-possible flag updates F_EXT's index only (R95). -/
theorem clearIcePossible_view (s : State) : p.view (clearIcePossible s) = p.view s :=
  (requestSaves_view _ _).trans
    ((view_setFilter _ .ext _ fun _ => updateIndex_countsView _ _ _).trans (view_frost s _))

theorem endIceHold_view (s : State) : p.view (endIceHold s) = p.view s :=
  (clearIcePossible_view _).trans (view_frost s _)

theorem takeCutout_view (s : State) : p.view (takeCutout s) = p.view s := by
  refine (refreshAvailability_view _).trans ?_
  split
  · exact markInactive_view _ s
  · exact markActive_view _ s

theorem cutoutDebounced_view (s : State) : p.view (cutoutDebounced s) = p.view s := by
  unfold cutoutDebounced; dsimp only; split
  · exact (takeCutout_view _).trans (view_frost s _)
  · exact view_frost s _

/-! ### The frost evaluation -/

theorem testClear_view (s : State) : p.view (testClear s) = p.view s := by
  unfold testClear; split
  · exact moveCold_view _ s
  · rfl

theorem testWatch_view (s : State) : p.view (testWatch s) = p.view s := by
  unfold testWatch; split
  · exact moveCold_view _ s
  · split
    · exact moveCold_view _ s
    · rfl

theorem testPreheat_view (s : State) : p.view (testPreheat s) = p.view s := by
  unfold testPreheat; dsimp only; split
  · exact (moveCold_view _ _).trans (view_frost s _)
  · exact (endPreheat_view _).trans (view_frost s _)

theorem testReduce_view (s : State) : p.view (testReduce s) = p.view s := by
  unfold testReduce; split
  · exact enterIntent_view s
  · split
    · split
      · exact moveTo_view _ s
      · exact moveCold_view _ s
    · rfl

theorem testThaw_view (load : p ≠ .load) (fans : p ≠ .fans) (s : State) : p.view (testThaw s) = p.view s := by
  unfold testThaw; split
  · exact thawEnd_view load fans s
  · rfl

theorem testFallback_view (load : p ≠ .load) (s : State) : p.view (testFallback s) = p.view s := by
  unfold testFallback; split
  · exact leaveFallback_view load s
  · split
    · exact startTimedThaw_view s
    · rfl

theorem unlessExhaustFault_view {test : State → State} {s : State} (same : p.view (test s) = p.view s) :
    p.view (unlessExhaustFault test s) = p.view s := by
  unfold unlessExhaustFault; split
  · exact enterFallback_view s
  · exact same

theorem testState_view (load : p ≠ .load) (fans : p ≠ .fans) (s : State) : p.view (testState s) = p.view s := by
  unfold testState; split
  · exact unlessExhaustFault_view (testClear_view s)
  · exact unlessExhaustFault_view (testWatch_view s)
  · exact unlessExhaustFault_view (testPreheat_view s)
  · exact unlessExhaustFault_view (testReduce_view s)
  · exact unlessExhaustFault_view rfl
  · exact testThaw_view load fans s
  · exact testThaw_view load fans s
  · exact unlessExhaustFault_view rfl
  · exact testFallback_view load s

theorem frostEvaluate_view (load : p ≠ .load) (fans : p ≠ .fans) (s : State) : p.view (frostEvaluate s) = p.view s := by
  have loaded : p.view (updatePower (updateLoad s)) = p.view s :=
    (view_frost _ _).trans (view_frost s _ (absurd · load))
  exact (view_frost _ _).trans
    ((assessIce_view _).trans ((testState_view load fans _).trans loaded))

/-! ### The scanner -/

/-- T_EHA's change asks for a new load only where the record becomes VALID (R83). -/
theorem exhaustChanged_view (before after : ChannelRecord) (load : p = .load → after.state ≠ .valid) (s : State) :
    p.view (exhaustChanged before after s) = p.view s := by
  unfold exhaustChanged exhaustLost exhaustBack; split
  · split
    · exact enterFallback_view s
    · rfl
  · split
    · next back =>
      split
      · exact leaveFallback_view (fun e => load e back.1) s
      · rfl
    · rfl

theorem handOver_view (ch : Channel) (before after : ChannelRecord) (outdoor : p ≠ .outdoor)
    (load : p = .load → after.state ≠ .valid) (s : State) : p.view (handOver ch before after s) = p.view s := by
  rcases handOver_cases ch before after s with e | e | e | e <;> rw [e]
  · unfold outdoorChanged; split
    · exact view_outdoor s _ outdoor
    · rfl
  · exact refreshAvailability_view s
  · exact exhaustChanged_view before after load s

theorem takeConversion_view (channels : p ≠ .channels) (outdoor : p ≠ .outdoor) (load : p ≠ .load) (ch : Channel)
    (x : Sample) (s : State) : p.view (takeConversion ch x s) = p.view s := by
  obtain ⟨srf, e⟩ := takeConversion_eq ch x s
  rw [e]
  exact (handOver_view ch _ _ outdoor (absurd · load) _).trans
    ((view_beside _ _ _ _ _).trans (view_scanner s _ (absurd · channels)))

/-- An expired hold leaves the record in FAULT, so that FALLBACK is not left and the load stays (R9, R83). -/
theorem expireHold_view (channels : p ≠ .channels) (outdoor : p ≠ .outdoor) (ch : Channel) (s : State) :
    p.view (expireHold ch s) = p.view s := by
  unfold expireHold; dsimp only; split
  · exact (handOver_view ch _ _ outdoor (fun _ => ChannelState.noConfusion) _).trans
      ((markActive_view _ _).trans (view_scanner s _ (absurd · channels)))
  · rfl

theorem countPulse_channels (f : Fan) (high low : Nat) (m : Scanner) : (countPulse f high low m).channels = m.channels := by
  unfold countPulse; dsimp only; split <;> rfl

/-- A scan's completion sets the measured speeds, which are not seen. -/
theorem completeScan_view (s : State) : p.view (completeScan s) = p.view s :=
  (refreshAvailability_view _).trans ((view_scanner _ _).trans
    ((view_setFan _ .ext _).trans (view_setFan s .sup _)))

end

end Sys2Proof.Machine
end

section
/-! SUPPORT. What the operations of the other blocks leave as it is: every part but those named in an operation's hypotheses. -/

namespace Sys2Proof.Machine
open Sys2Proof.Safety

section
variable {p : BlockPart}

/-! ### The fan drive and the filter monitor -/

theorem evaluateFilters_view (counts : p ≠ .counts) (s : State) : p.view (evaluateFilters s) = p.view s := by
  refine (evaluateFilters_kept s).view (fun _ => evaluateFilters_fdr s) (absurd · counts) fun _ => ?_
  obtain ⟨_, _, e⟩ := evaluateFilters_eq s
  rw [e]

theorem fanEvaluate_view (fans : p ≠ .fans) (counts : p ≠ .counts) (s : State) : p.view (fanEvaluate s) = p.view s := by
  have evaluated : p.view (evaluateFans s) = p.view s := (evaluateFans_kept s).view (absurd · fans)
    (fun _ => evaluateFans_flm s) (fun _ => congrArg FrostGuard.load (evaluateFans_frg s))
  exact (view_fans _ _ fans).trans ((evaluateFilters_view counts _).trans ((fansChanged_view _).trans evaluated))

theorem settleAtLimit_view (fans : p ≠ .fans) (f : Fan) (s : State) : p.view (settleAtLimit f s) = p.view s := by
  unfold settleAtLimit; split
  · exact (fansChanged_view _).trans ((markInactive_view _ _).trans (view_fans s _ fans))
  · rfl

theorem stallAtLimit_view (fans : p ≠ .fans) (f : Fan) (s : State) : p.view (stallAtLimit f s) = p.view s := by
  unfold stallAtLimit; split
  · exact (fansChanged_view _).trans
      ((guardFlows_view fans _ _).trans ((markActive_view _ _).trans (view_fans s _ fans)))
  · rfl

theorem endRetryPause_view (fans : p ≠ .fans) (f : Fan) (s : State) : p.view (endRetryPause f s) = p.view s := by
  unfold endRetryPause; split
  · exact (fansChanged_view _).trans (view_fans s _ fans)
  · rfl

theorem clearRetries_view (fans : p ≠ .fans) (s : State) : p.view (clearRetries s) = p.view s :=
  (fansChanged_view _).trans (view_fans s _ fans)

theorem onRecord_view (counts : p ≠ .counts) (f : Fan) (op : FilterRecord → FilterRecord × Nat) (s : State) :
    p.view (onRecord f op s) = p.view s :=
  (requestSaves_view _ _).trans (view_setFilter s f _ (absurd · counts))

/-- A record that goes to BLOCKED keeps its counts and its reference (R98). -/
theorem enterBlocked_view (f : Fan) (s : State) : p.view (enterBlocked f s) = p.view s :=
  (requestSave_view _).trans ((markActive_view _ _).trans (view_setFilter s f _))

theorem captureAtLimit_view (counts : p ≠ .counts) (f : Fan) (s : State) : p.view (captureAtLimit f s) = p.view s := by
  unfold captureAtLimit; split
  · split
    · exact onRecord_view counts f _ s
    · rfl
  · rfl

theorem filterDebounced_view (s : State) : p.view (filterDebounced s) = p.view s := view_filters s _

theorem filterHeld_view (counts : p ≠ .counts) (s : State) : p.view (filterHeld s) = p.view s :=
  (filterHeld_kept s).view (fun _ => by rw [filterHeld_eq]; obtain ⟨_, _, e⟩ := requestSave_eq (changedState s); rw [e]; rfl)
    (absurd · counts) (fun _ => by rw [filterHeld_eq, requestSave_frg]; rfl)

/-! ### The mode stack and the humidity evaluator -/

theorem setPin_view (pin : InputPin) (high : Bool) (s : State) : p.view (setPin pin high s) = p.view s := by
  cases pin with
  | boost | away | combustion => exact view_setStack s _
  | filter => exact view_filters s _
  | cutout => exact view_frost s _

theorem takeAway_view (stack : p ≠ .stack) (s : State) : p.view (takeAway s) = p.view s :=
  view_setStack s _ (absurd · stack)

theorem boostDebounced_view (stack : p ≠ .stack) (s : State) : p.view (boostDebounced s) = p.view s := by
  unfold boostDebounced; dsimp only; split <;> exact view_setStack s _ (absurd · stack)

theorem awayDebounced_view (stack : p ≠ .stack) (s : State) : p.view (awayDebounced s) = p.view s := by
  unfold awayDebounced; dsimp only; split
  · exact (takeAway_view stack _).trans (view_setStack s _)
  · exact view_setStack s _

theorem takeCombustion_view (stack : p ≠ .stack) (fans : p ≠ .fans) (s : State) : p.view (takeCombustion s) = p.view s := by
  have inserted : ∀ m, p.view (setStack m s) = p.view s := fun m => view_setStack s m (absurd · stack)
  unfold takeCombustion insertCombustion combustionAppeared; split
  · split
    · rfl
    · exact (convertThaw_view fans _).trans
        ((recheckIntent_view _).trans ((fansChanged_view _).trans ((guardFlows_view fans _ _).trans (inserted _))))
  · exact inserted _

theorem combustionDebounced_view (stack : p ≠ .stack) (fans : p ≠ .fans) (s : State) :
    p.view (combustionDebounced s) = p.view s := by
  unfold combustionDebounced; dsimp only; split
  · exact (takeCombustion_view stack fans _).trans (view_setStack s _)
  · exact view_setStack s _

theorem evaluateClimate_view (s : State) : p.view (evaluateClimate s) = p.view s := view_setStack s _

theorem humidityEvaluate_view (humidity : p ≠ .humidity) (stack : p ≠ .stack) (s : State) :
    p.view (humidityEvaluate s) = p.view s :=
  (view_setStack { s with hev := humidityAfter s } _ (absurd · stack)).trans (view_humidity s _ humidity)

/-! ### The peer table and the outdoor resolver -/

theorem adjUpdated_view (fans : p ≠ .fans) (x : PeerEntry) (s : State) : p.view (adjUpdated x s) = p.view s := by
  unfold adjUpdated; split
  · split
    · exact convertThaw_view fans s
    · rfl
  · exact recheckIntent_view s

theorem updateOutdoor_view (outdoor : p ≠ .outdoor) (s : State) : p.view (updateOutdoor s) = p.view s :=
  view_outdoor s _ outdoor

theorem evaluatePlume_view (outdoor : p ≠ .outdoor) (s : State) : p.view (evaluatePlume s) = p.view s := by
  obtain ⟨odr, e⟩ := evaluatePlume_eq s; rw [e]; exact view_outdoor s odr outdoor

theorem evaluatePlumeOf_view (outdoor : p ≠ .outdoor) (position : Position) (s : State) :
    p.view (evaluatePlumeOf position s) = p.view s := by
  unfold evaluatePlumeOf; split
  · exact evaluatePlume_view outdoor s
  · rfl

theorem recordEntry_view (peers : p ≠ .peers) (outdoor : p ≠ .outdoor) (fans : p ≠ .fans) (x : PeerEntry) (s : State) :
    p.view (recordEntry x s) = p.view s := by
  have resolved : ∀ t : State, p.view t = p.view s →
      p.view (updateOutdoor (evaluatePlumeOf x.position t)) = p.view s := fun t same =>
    (updateOutdoor_view outdoor _).trans ((evaluatePlumeOf_view outdoor _ t).trans same)
  unfold recordEntry; dsimp only; split
  · exact (adjUpdated_view fans x _).trans (resolved _ (view_peers s _ peers))
  · exact resolved _ (view_peers s _ peers)

theorem hearState_view (peers : p ≠ .peers) (outdoor : p ≠ .outdoor) (fans : p ≠ .fans) (sender : Position)
    (payload : List Byte) (s : State) : p.view (hearState sender payload s) = p.view s := by
  unfold hearState; split
  · split
    · rfl
    · exact recordEntry_view peers outdoor fans _ s
  · rfl

theorem hearIntent_view (peers : p ≠ .peers) (outdoor : p ≠ .outdoor) (fans : p ≠ .fans) (sender : Position)
    (payload : List Byte) (s : State) : p.view (hearIntent sender payload s) = p.view s := by
  unfold hearIntent; split
  · split
    · rfl
    · exact recordEntry_view peers outdoor fans _ s
  · rfl

theorem hearEnd_view (peers : p ≠ .peers) (outdoor : p ≠ .outdoor) (fans : p ≠ .fans) (sender : Position)
    (payload : List Byte) (s : State) : p.view (hearEnd sender payload s) = p.view s := by
  unfold hearEnd; split
  · exact recordEntry_view peers outdoor fans _ s
  · rfl

theorem ageEntries_view (peers : p ≠ .peers) (outdoor : p ≠ .outdoor) (s : State) : p.view (ageEntries s) = p.view s := by
  have resolved : ∀ ptb, p.view (updateOutdoor (evaluatePlume { s with ptb := ptb })) = p.view s := fun ptb =>
    (updateOutdoor_view outdoor _).trans ((evaluatePlume_view outdoor _).trans (view_peers s ptb peers))
  unfold ageEntries; dsimp only; split
  · exact (recheckIntent_view _).trans (resolved _)
  · exact resolved _

theorem expireEntry_view (peers : p ≠ .peers) (outdoor : p ≠ .outdoor) (position : Position) (s : State) :
    p.view (expireEntry position s) = p.view s := by
  have resolved : ∀ ptb, p.view (updateOutdoor { s with ptb := ptb }) = p.view s := fun ptb =>
    (updateOutdoor_view outdoor _).trans (view_peers s ptb peers)
  unfold expireEntry removeEntries; dsimp only; split
  · split
    · exact (recheckIntent_view _).trans (resolved _)
    · exact resolved _
  · rfl

/-! ### The terrace line -/

theorem captureFault_lastSender (c : LineCapture) (m : LineController) : (captureFault c m).lastSender = m.lastSender := by
  unfold captureFault; split <;> rfl

theorem countFailure_lastSender (m : LineController) : (countFailure m).lastSender = m.lastSender := by
  unfold countFailure; split <;> rfl

theorem lineFault_view (line : p ≠ .line) (fault : LineFaultKind) (sender : Option Position) (kind : Option FrameKind)
    (s : State) : p.view (lineFault fault sender kind s) = p.view s :=
  (view_beside _ _ _ _ _).trans
    (view_setLine s _ (fun _ => captureFault_lastSender _ _) (absurd · line))

theorem failFrame_view (line : p ≠ .line) (f : ShiftedFrame) (s : State) : p.view (failFrame f s) = p.view s := by
  have counted : ∀ t : State, p.view t = p.view s → p.view (setLine (countFailure t.lnc) t) = p.view s := fun t same =>
    (view_setLine t _ (fun _ => countFailure_lastSender _) (absurd · line)).trans same
  have failed : ∀ fault sender kind, p.view (lineFault fault sender kind
      (setLine (toWaiting { s.lnc with shifter := none, mark := none }) s)) = p.view s := fun fault sender kind =>
    (lineFault_view line fault sender kind _).trans (view_setLine s _)
  unfold failFrame; dsimp only; split
  · exact counted _ (failed _ _ _)
  · exact (recheckIntent_view _).trans (counted _ (failed _ _ _))

theorem beginContention_view (line : p ≠ .line) (c : Contention) (s : State) : p.view (beginContention c s) = p.view s := by
  unfold beginContention; split
  · split
    · exact view_setLine s _
    · exact (failFrame_view line _ _).trans (view_setLine s _)
    · exact view_setLine s _
  · rfl

theorem succeed_view (sender : p ≠ .sender) (line : p ≠ .line) (f : ShiftedFrame) (s : State) :
    p.view (succeed f s) = p.view s :=
  (markInactive_view _ _).trans (view_setLine s _ (absurd · sender) (absurd · line))

theorem discard_view (line : p ≠ .line) (fault : LineFaultKind) (sender : Option Position) (kind : Option FrameKind)
    (s : State) : p.view (Machine.discard fault sender kind s) = p.view s :=
  (lineFault_view line _ _ _ _).trans (view_setLine s _)

theorem declareStuck_view (line : p ≠ .line) (s : State) : p.view (declareStuck s) = p.view s :=
  (lineFault_view line _ _ _ _).trans (view_setLine s _)

theorem heardState_view (own : p ≠ .sender) (sender : Position) (s : State) : p.view (heardState sender s) = p.view s :=
  (markInactive_view _ _).trans (view_setLine s _ (absurd · own))

theorem findDuplicate_view (line : p ≠ .line) (fans : p ≠ .fans) (s : State) : p.view (findDuplicate s) = p.view s := by
  unfold findDuplicate; split
  · rfl
  · exact (convertThaw_view fans _).trans ((recheckIntent_view _).trans
      ((markActive_view _ _).trans (view_setLine s _ (line := (absurd · line)))))

theorem answerQuery_view (space : Space) (payload : List Byte) (s : State) :
    p.view (answerQuery space payload s) = p.view s := by
  unfold answerQuery; split
  · split
    · exact (stage_view _ _ _).trans (view_beside s _ _ _ _)
    · rfl
  · rfl

theorem endQuiet_view (line : p ≠ .line) (s : State) : p.view (endQuiet s) = p.view s := by
  unfold endQuiet; split
  · exact (recheckIntent_view _).trans (view_setLine s _ (line := (absurd · line)))
  · rfl

theorem endListenIn_view (line : p ≠ .line) (s : State) : p.view (endListenIn s) = p.view s := by
  unfold endListenIn; split
  · exact (recheckIntent_view _).trans (view_setLine s _ (line := (absurd · line)))
  · rfl

/-! ### The start load -/

theorem takeImage_view (params : p ≠ .params) (img : Option (List Byte)) (s : State) :
    p.view (takeImage img s) = p.view s :=
  (markIf_view _ _ _).trans ((markIf_view _ _ _).trans (view_params s _ _ params))

theorem placeRecords_view (counts : p ≠ .counts) (r : PerFan FilterRecord) (s : State) :
    p.view (placeRecords r s) = p.view s := by
  have placed : ∀ n flm, p.view (requestSaves n { s with flm := flm }) = p.view s := fun n flm =>
    (requestSaves_view n _).trans (view_filters s flm (absurd · counts))
  unfold placeRecords; dsimp only; split
  · exact (markActive_view _ _).trans (placed _ _)
  · exact placed _ _

theorem takeUpStack_view (stack : p ≠ .stack) (fans : p ≠ .fans) (s : State) : p.view (takeUpStack s) = p.view s := by
  have configured : ∀ mst, p.view { s with mst := mst, flm := { s.flm with button := s.flm.button.atStart } } = p.view s :=
    fun mst => (view_filters (setStack mst s) _).trans (view_setStack s mst (absurd · stack))
  exact (takeCombustion_view stack fans _).trans ((takeAway_view stack _).trans (configured _))

theorem takeUpFlows_view (stack : p ≠ .stack) (fans : p ≠ .fans) (counts : p ≠ .counts) (order : StartOrder) (s : State) :
    p.view (takeUpFlows order s) = p.view s := by
  cases order with
  | fanFirst => exact (takeUpStack_view stack fans _).trans (fanEvaluate_view fans counts s)
  | stackFirst => exact (takeUpStack_view stack fans _).trans (view_fans s _ fans)

theorem startPeriods_view (s : State) : p.view (startPeriods s) = p.view s := by cases p <;> rfl

theorem completeLoad_view {order : StartOrder} (own : owns p (.startLoadCompletion order) = false)
    (img : Option (List Byte)) (s : State) : p.view (completeLoad order img s) = p.view s := by
  have loaded : p.view (placeRecords (recordsInUse img).2 (startLine (takeImage img s))) = p.view s :=
    (placeRecords_view (ne_of_owns own rfl) _ _).trans
      ((view_setLine _ _ (absurd · (ne_of_owns own rfl)) (absurd · (ne_of_owns own rfl))).trans
        (takeImage_view (ne_of_owns own rfl) img s))
  have takenUp := takeUpFlows_view (p := p) (ne_of_owns own rfl) (ne_of_owns own rfl) (ne_of_owns own rfl) order
    (placeRecords (recordsInUse img).2 (startLine (takeImage img s)))
  exact (evaluateClimate_view _).trans ((updateOutdoor_view (ne_of_owns own rfl) _).trans
    ((startPeriods_view _).trans ((takeCutout_view _).trans (takenUp.trans loaded))))

theorem lookAtMemory_view {order : StartOrder} (own : owns p (.startLoadCompletion order) = false) (status : Byte)
    (s : State) : p.view (lookAtMemory status order s) = p.view s := by
  unfold lookAtMemory; split
  · exact (completeLoad_view own none _).trans (view_beside s _ _ _ _)
  · split <;> exact view_beside s _ _ _ _

end

end Sys2Proof.Machine
end

section
/-! SUPPORT. Every command keeps the parts that it does not own. -/

namespace Sys2Proof.Machine
open Sys2Proof.Safety

/-- A command that does not own a part keeps it. -/
theorem view_keeps (p : BlockPart) (before : State) : Keeps (owns p · = false) (fun s => p.view s = p.view before) where
  pending s q h := (view_queue s q).trans h
  time d s h := (passTime_view d s).trans h
  lamps s h := (refreshLamps_view s).trans h
  power _ _ _ own supply _ := by rw [owns_of_supply p supply] at own; cases own
  look _ status order s own may _ _ h := (lookAtMemory_view (owns_of_mayComplete may order ▸ own) status s).trans h
  complete _ order img s own may _ _ h := (completeLoad_view (owns_of_mayComplete may order ▸ own) img s).trans h
  -- the scanner
  conversion ch _ s own _ h :=
    (takeConversion_view (ne_of_owns own rfl) (ne_of_owns own rfl) (ne_of_owns own rfl) ch _ s).trans h
  hold ch s own _ h := (expireHold_view (ne_of_owns own rfl) (ne_of_owns own rfl) ch s).trans h
  pulse f high low s _ _ h := (view_scanner s _ fun _ => countPulse_channels f high low s.msc).trans h
  scan s _ _ h := (completeScan_view s).trans h
  -- the fan drive
  evaluation s own _ h := (fanEvaluate_view (ne_of_owns own rfl) (ne_of_owns own rfl) s).trans h
  settle f s own _ h := (settleAtLimit_view (ne_of_owns own rfl) f s).trans h
  stall f s own _ h := (stallAtLimit_view (ne_of_owns own rfl) f s).trans h
  retry f s own _ h := (endRetryPause_view (ne_of_owns own rfl) f s).trans h
  -- the mode stack and the humidity evaluator
  pin pin high s _ h := (setPin_view pin high s).trans h
  boost s own _ h := (boostDebounced_view (ne_of_owns own rfl) s).trans h
  away s own _ h := (awayDebounced_view (ne_of_owns own rfl) s).trans h
  combustion s own _ h := (combustionDebounced_view (ne_of_owns own rfl) (ne_of_owns own rfl) s).trans h
  count s own _ h := (view_setStack s _ (absurd · (ne_of_owns own rfl))).trans h
  expire s own _ h := (view_setStack s _ (absurd · (ne_of_owns own rfl))).trans h
  climate s _ _ h := (evaluateClimate_view s).trans h
  humidity s own _ h := (humidityEvaluate_view (ne_of_owns own rfl) (ne_of_owns own rfl) s).trans h
  -- the frost guard
  frost s own _ h := (frostEvaluate_view (ne_of_owns own rfl) (ne_of_owns own rfl) s).trans h
  fullPower s _ _ h := (endPreheat_view s).trans h
  holdoff s _ _ h := (endHoldoff_view s).trans h
  thaw s own _ h := (thawTimedOut_view (ne_of_owns own rfl) (ne_of_owns own rfl) s).trans h
  recover s _ _ h := (endRecover_view s).trans h
  timedThaw s own _ h := (endTimedThaw_view (ne_of_owns own rfl) s).trans h
  iceHold s _ _ h := (endIceHold_view s).trans h
  heat s _ _ h := (view_frost s _).trans h
  cutout s _ _ h := (cutoutDebounced_view s).trans h
  -- the filter monitor and the memory port
  filterRecord _ f op s own counts _ h := (onRecord_view (ne_of_owns own counts) f op s).trans h
  blocked f s _ _ h := (enterBlocked_view f s).trans h
  capture f s own _ h := (captureAtLimit_view (ne_of_owns own rfl) f s).trans h
  filterButton s _ _ h := (filterDebounced_view s).trans h
  filterHold s own _ h := (filterHeld_view (ne_of_owns own rfl) s).trans h
  save _ sv status s _ _ _ h := (lookAtSave_view sv status s).trans h
  byteFailed _ sv s _ _ _ h := (failByte_view sv s).trans h
  byteWritten _ sv s _ _ _ h := (byteWritten_view sv s).trans h
  -- the terrace line
  idle s _ _ h := (view_setLine s _).trans h
  dominant s _ _ h := (view_setLine s _).trans h
  contention c s own _ h := (beginContention_view (ne_of_owns own rfl) c s).trans h
  lost _ s _ _ h := (view_setLine s _).trans h
  bitError f s own _ h := (failFrame_view (ne_of_owns own rfl) f s).trans h
  success f s own _ h := (succeed_view (ne_of_owns own rfl) (ne_of_owns own rfl) f s).trans h
  discarded _ fault sender kind s own discards _ h :=
    (discard_view (ne_of_owns own (owns_line_of_discards discards)) fault sender kind s).trans h
  stuck s own _ h := (declareStuck_view (ne_of_owns own rfl) s).trans h
  stuckReception s own _ h := (declareStuck_view (ne_of_owns own rfl) _).trans
    ((view_setLine s _).trans h)
  heard _ sender s own foreign _ _ h :=
    (heardState_view (ne_of_owns own (owns_sender_of_otherStation foreign)) sender s).trans h
  duplicate _ s own foreign _ _ h :=
    (findDuplicate_view (ne_of_owns own (owns_line_of_otherStation foreign))
      (ne_of_owns own (owns_fans_of_otherStation foreign)) s).trans h
  quiet s own _ h := (endQuiet_view (ne_of_owns own rfl) s).trans h
  listenIn s own _ h := (endListenIn_view (ne_of_owns own rfl) s).trans h
  statePeriod s _ _ h := (composeState_view s).trans h
  -- the peer table, the outdoor resolver, the responder and the lamps
  stateFrame sender payload s own _ _ h :=
    (hearState_view (ne_of_owns own rfl) (ne_of_owns own rfl) (ne_of_owns own rfl) sender payload s).trans h
  intentFrame sender payload s own _ _ h :=
    (hearIntent_view (ne_of_owns own rfl) (ne_of_owns own rfl) (ne_of_owns own rfl) sender payload s).trans h
  endFrame sender payload s own _ _ h :=
    (hearEnd_view (ne_of_owns own rfl) (ne_of_owns own rfl) (ne_of_owns own rfl) sender payload s).trans h
  query _ space payload s _ _ _ h := (answerQuery_view space payload s).trans h
  clearCapture _ _ s own _ h := (view_setLine s _ (line := (absurd · (ne_of_owns own rfl)))).trans h
  clearFaults _ _ s _ _ h := (view_beside s _ _ _ _).trans h
  clearRetry _ _ s own _ h := (clearRetries_view (ne_of_owns own rfl) s).trans h
  ageing s own _ h := (ageEntries_view (ne_of_owns own rfl) (ne_of_owns own rfl) s).trans h
  entryGone position s own _ h := (expireEntry_view (ne_of_owns own rfl) (ne_of_owns own rfl) position s).trans h
  plumeHold s own _ h := (view_outdoor s _ (ne_of_owns own rfl)).trans h
  flash _ s _ _ h := (view_beside s _ _ _ _).trans h

/-- A part is changed by its own commands only. -/
theorem exec_view {i : Instr} {s t : State} (h : exec i s = .next t) (p : BlockPart) (own : owns p i = false) :
    p.view t = p.view s := (view_keeps p s).exec i own h rfl

end Sys2Proof.Machine
end

section
/-! The statements of the step, and of what a command does not own. -/

open Sys2Proof Sys2Proof.Machine Sys2Proof.Safety

/-- Settles O1: the queue decides which branch of the step is taken. -/
theorem stepRunsTheFrontCommand : Obligations.StepRunsTheFrontCommand := by
  intro c rest s front
  unfold step
  rw [front]

/-- Settles O2: as O1, in the branch of the empty queue, with one bit time as 5 ticks (log 1). -/
theorem emptyQueueStepPassesOneBitTime : Obligations.EmptyQueueStepPassesOneBitTime := by
  intro s empty
  have bitTime : bitTimes 1 = 5 := rfl
  unfold step
  rw [empty, bitTime]

/-- Settles O51: every clause is the view of one part, which the commands that do not own it keep. -/
theorem blocksAreChangedByTheirOwnEvents : Obligations.BlocksAreChangedByTheirOwnEvents := by
  intro i s t h
  have same := exec_view h
  refine ⟨fun own => ?_, fun own ch => ?_, fun own => same .peers own, fun other supply => ?_, fun own => same .sender own,
    fun complete supply => same .params (by simp [owns, complete, supply]), fun own f => ?_, fun own f => ?_,
    fun own => same .load own, fun own => ?_, fun own => ?_⟩
  · have seen : stackView t.mst = stackView s.mst := same .stack own
    simpa only [stackView, Prod.mk.injEq] using seen
  · have seen : channelView (channel t ch) = channelView (channel s ch) := congrFun (same .channels own) ch
    simpa only [channelValue, channelView, Prod.mk.injEq] using seen
  · have seen : humidityView t.hev = humidityView s.hev := same .humidity (by simp [owns, other, supply])
    simpa only [humidityView, Prod.mk.injEq] using seen
  · have seen : fanView (fan t f) = fanView (fan s f) := congrFun (same .fans own) f
    simpa only [fanView, Prod.mk.injEq] using seen
  · have seen : countsView (filterRecord t f) = countsView (filterRecord s f) := congrFun (same .counts own) f
    simpa only [countsView, Prod.mk.injEq] using seen
  · have seen : lineView t.lnc = lineView s.lnc := same .line own
    simpa only [lineView, Prod.mk.injEq] using seen
  · have seen : outdoorView t.odr = outdoorView s.odr := same .outdoor own
    simpa only [outdoorView, Prod.mk.injEq] using seen

end
